-- ==== Sys2Proof/Word.lean ====
section
/-! DEFINITION. The word types of the engine (00_scope.md R9): bytes and 32-bit values, unsigned, bit 0 least significant. -/

namespace Sys2Proof

/-- One byte, the unit of every bus exchange and buffer access (R6, R9). -/
abbrev Byte := BitVec 8

/-- A 32-bit value: command argument, sector index, sector count, ioctl value. -/
abbrev Word := BitVec 32

end Sys2Proof
end

