-- ==== Sys2Proof/Machine/Parameters.lean ====
section
/-! DEFINITION. The decided parameters of 00_scope.md R7 and the literals the source fixes, each under its name there.
Values the spec took from general knowledge (93_implementation_defined.md G1 to G14) are marked in log 2. -/

namespace Sys2Proof.Machine

/-- `UNIT_VALID`, the one valid unit selector (R7, D5). -/
def unitValid : Byte := 0

/-- `IDX_GO_IDLE`. -/
def idxGoIdle : BitVec 6 := 0
/-- `IDX_IF_COND`. -/
def idxIfCond : BitVec 6 := 8
/-- `IDX_APP`. -/
def idxApp : BitVec 6 := 55
/-- `IDX_SD_OP_COND`. -/
def idxSdOpCond : BitVec 6 := 41
/-- `IDX_OP_COND`. -/
def idxOpCond : BitVec 6 := 1
/-- `IDX_READ_OCR`. -/
def idxReadOcr : BitVec 6 := 58
/-- `IDX_READ_BLOCK`. -/
def idxReadBlock : BitVec 6 := 17
/-- `IDX_WRITE_BLOCK`. -/
def idxWriteBlock : BitVec 6 := 24

/-- `CRC_GO_IDLE`. -/
def crcGoIdle : Byte := 0x95
/-- `CRC_IF_COND`. -/
def crcIfCond : Byte := 0x87
/-- `CRC_DUMMY`. -/
def crcDummy : Byte := 0x01

/-- `ARG_IF_COND`. -/
def argIfCond : Word := 0x000001AA
/-- `ARG_HCS`. -/
def argHcs : Word := 0x40000000
/-- `CCS_MASK`. -/
def ccsMask : Byte := 0x40
/-- `IDLE_BYTE`. -/
def idleByte : Byte := 0xFF
/-- `CRC_DATA_DUMMY`. -/
def crcDataDummy : Byte := 0xFF

/-- The idle response code `R_IDLE` (30_encoding.md R95). -/
def respIdle : Byte := 0x01
/-- The ready response code `R_READY` (R95). -/
def respReady : Byte := 0x00
/-- The data start token `TOKEN_START` (R97, R98). -/
def tokenStart : Byte := 0xFE
/-- The filler byte of token polling (R101). -/
def tokenFiller : Byte := 0xFF
/-- The not-busy value of the busy-wait (R100). -/
def notBusy : Byte := 0xFF
/-- Mask of the data response byte (R99). -/
def drespMask : Byte := 0x1F
/-- The accepted value of the masked data response byte (R99). -/
def drespAccepted : Byte := 0x05
/-- Bytes of one sector (R60). -/
def sectorBytes : Nat := 512

/-- Operation codes `OP` (R104). -/
def opInitialize : BitVec 3 := 0
def opStatus : BitVec 3 := 1
def opRead : BitVec 3 := 2
def opWrite : BitVec 3 := 3
def opIoctl : BitVec 3 := 4

/-- Query codes `QUERY` (R107). -/
def queryCtrlSync : Byte := 0
def queryGetSectorSize : Byte := 2
def queryGetBlockSize : Byte := 3

/-- Result codes `CODE` (R105). -/
def resOk : BitVec 3 := 0
def resError : BitVec 3 := 1
def resNotRdy : BitVec 3 := 3
def resParErr : BitVec 3 := 4

/-- The CRC byte of a frame, "chosen from the index alone" (R94). -/
def crcFor (index : BitVec 6) : Byte :=
  if index = idxGoIdle then crcGoIdle
  else if index = idxIfCond then crcIfCond
  else crcDummy

end Sys2Proof.Machine
end

