-- ==== Sys2Proof/Config.lean ====
section
/-! DEFINITION. The OPEN parameters of the configuration record of 00_scope.md R7, and the free value of the card's bytes.
The parameters R7 marks "decided" are the constants of Machine/Parameters.lean. -/

namespace Sys2Proof

/-- How a sector index becomes the argument of CMD17 and CMD24 (R7 `ADDR_MODE`, 20_memory.md R64). -/
inductive AddrMode
  | block
  | byte
  deriving DecidableEq, Repr

/-- The OPEN rows of R7: "the source gives no number and the model takes the value as an argument". -/
structure Config where
  /-- `N_RESP`: response polls after a command frame. -/
  nResp : Nat
  /-- `N_RESP_RESET`: response polls after the CMD0 frame of INITIALIZE. -/
  nRespReset : Nat
  /-- `N_PWRUP`: idle byte exchanges of the bus-reset step. -/
  nPwrup : Nat
  /-- `N_ACMD`: iterations of the application-command loop. -/
  nAcmd : Nat
  /-- `N_TOKEN`: polls for the data start token in READ. -/
  nToken : Nat
  /-- `N_BUSY`: polls of the busy-wait in WRITE. -/
  nBusy : Nat
  /-- `F_SLOW`: bus speed in hertz during initialization. -/
  fSlow : Nat
  /-- `F_FAST`: bus speed in hertz after initialization; its magnitude is not constrained beyond being positive (log 1). -/
  fFast : Nat
  /-- `ADDR_MODE`. -/
  addrMode : AddrMode
  deriving DecidableEq, Repr

/-- The "suggested" column of R7: the spec's own suggestion for tests, not a source value (DESIGN CHOICE, log 1). -/
def Config.suggested : Config where
  nResp := 10
  nRespReset := 8191
  nPwrup := 10
  nAcmd := 100000
  nToken := 40000
  nBusy := 500000
  fSlow := 400000
  fFast := 1000000
  addrMode := .block

/-- FREE VALUE (log 3): the byte the card answers at exchange number `n` when the scripted bytes of `State.card` have run out.
"The received bytes are inputs: the model must hold for every sequence of received bytes" (R13, U11). -/
opaque Config.freeByte : Nat → Byte

end Sys2Proof
end

