-- ==== Sys2Proof/Syntax.lean ====
section
/-! DEFINITION. The instructions: one constructor per row of opcode_table.json (8 wire frames and 7 host requests,
00_scope.md R1), and the two formats they are read from (30_encoding.md R91, R102). -/

namespace Sys2Proof

/-- The rows of opcode_table.json. Operands are those the row uses: the argument of a frame whose mask leaves it free, the
registers of "operands_used" of a request. The buffer operand of READ and WRITE is `State.buf` (10_state.md R32). -/
inductive Instr
  /-- "go idle" (R174). -/
  | cmd0
  /-- "check voltage range" (R175). -/
  | cmd8
  /-- "next command is application-specific" (R177). -/
  | cmd55
  /-- "send operating condition"; `hcs` is bit 30 of the argument, the high-capacity-request bit (R178). -/
  | acmd41 (hcs : Bool)
  /-- legacy "send op condition" (R179). -/
  | cmd1
  /-- "read OCR" (R180). -/
  | cmd58
  /-- "read single block" (R202). -/
  | cmd17 (arg : Word)
  /-- "write single block" (R208). -/
  | cmd24 (arg : Word)
  /-- INITIALIZE (R170). -/
  | hostInitialize (unit : Byte)
  /-- STATUS (R230). -/
  | hostStatus (unit : Byte)
  /-- READ (R200). -/
  | hostRead (unit : Byte) (sector count : Word)
  /-- WRITE (R207). -/
  | hostWrite (unit : Byte) (sector count : Word)
  /-- IOCTL, query CTRL_SYNC (R232). -/
  | ioctlCtrlSync (unit : Byte)
  /-- IOCTL, query GET_SECTOR_SIZE (R233). -/
  | ioctlGetSectorSize (unit : Byte)
  /-- IOCTL, query GET_BLOCK_SIZE (R234). -/
  | ioctlGetBlockSize (unit : Byte)
  deriving DecidableEq, Repr

/-- A command frame less its two fixed bits: index, argument, CRC byte (R91; the Command Descriptor of 10_state.md R30). -/
structure Frame where
  index : BitVec 6
  arg   : Word
  crc   : Byte
  deriving DecidableEq, Repr

/-- A host request: the five request registers (R102, 10_state.md R32). -/
structure Request where
  op     : BitVec 3
  unit   : Byte
  query  : Byte
  sector : Word
  count  : Word
  deriving DecidableEq, Repr

/-- What an instruction is written as: a frame or a request (R90). -/
inductive Encoded
  | frame (f : Frame)
  | request (r : Request)
  deriving DecidableEq, Repr

end Sys2Proof
end

