-- ==== Sys2Proof/WellFormed.lean ====
section
/-! DEFINITION. Well-formedness: which configurations 00_scope.md R7 allows, which frames the engine can put on the bus
(30_encoding.md R94, R108, R110), which requests select an operation (R104, R107), which instructions an addressing mode
admits (20_memory.md R64, R70). -/

namespace Sys2Proof

open Machine

/-- The numeric constraints of R7 on the OPEN parameters. DESIGN CHOICE (log 1): for `F_FAST` only `F_FAST > 0` is taken; the magnitude
"hundreds of kHz to a few MHz" in the same cell of R7 has no numbers and is left out. -/
def Config.valid (c : Config) : Bool :=
  decide (c.nResp ≤ c.nRespReset) && decide (10 ≤ c.nPwrup) && decide (0 < c.fSlow) && decide (c.fSlow ≤ 400000) && decide (0 < c.fFast)

/-- The eight command indices of the engine (R110). -/
def commandIndices : List (BitVec 6) :=
  [idxGoIdle, idxIfCond, idxApp, idxSdOpCond, idxOpCond, idxReadOcr, idxReadBlock, idxWriteBlock]

/-- The arguments R108 gives the command with this index. -/
def argumentLegal (index : BitVec 6) (arg : Word) : Bool :=
  if index = idxIfCond then arg = argIfCond
  else if index = idxSdOpCond then arg = 0 || arg = argHcs
  else if index = idxReadBlock || index = idxWriteBlock then true
  else arg = 0

/-- A frame of R110: a used index, an argument of R108, the CRC byte of R94. -/
def Frame.wf (f : Frame) : Bool :=
  commandIndices.contains f.index && argumentLegal f.index f.arg && f.crc == crcFor f.index

/-- A request that selects an operation (R104), for IOCTL a supported query (R107). -/
def Request.wf (r : Request) : Bool :=
  decide (r.op.toNat ≤ 4) &&
    (r.op != opIoctl || r.query == queryCtrlSync || r.query == queryGetSectorSize || r.query == queryGetBlockSize)

/-- An instruction the engine can issue under an addressing mode: "In BYTE mode every argument is a multiple of 512" (R70). -/
def Instr.wf (m : AddrMode) : Instr → Bool
  | .cmd17 arg => m == .block || arg.extractLsb' 0 9 == 0#9
  | .cmd24 arg => m == .block || arg.extractLsb' 0 9 == 0#9
  | _ => true

end Sys2Proof
end

