-- ==== Sys2Proof/Decode.lean ====
section
/-! DEFINITION. Decoding, total on any bytes and rejecting by name, and the encoder written from the same tables
(30_encoding.md R90 to R94, R102, R104, R107, R108, R110; opcode_table.json). -/

namespace Sys2Proof

open Machine

/-- Why bytes are no instruction of the table. -/
inductive DecodeReject
  /-- neither the 6 bytes of a FRAME nor the 11 bytes that hold the 83 bits of a HOSTREQ (R90) -/
  | length
  /-- bits 47:46 of a frame are not `01` (R91) -/
  | startBits
  /-- an index no operation uses (R110, U21) -/
  | index
  /-- an argument R108 does not give this command -/
  | argument
  /-- a CRC byte other than R94's -/
  | crc
  /-- a set bit above the 83 bits of a request -/
  | padding
  /-- OP 5, 6 or 7 (R111) -/
  | op
  /-- a QUERY other than 0, 2, 3 (R112) -/
  | query
  deriving DecidableEq, Repr

/-! ### Fields -/

/-- Frame byte 0: `0x40 | index` (R92). -/
def commandByte (index : BitVec 6) : Byte := 0x40#8 ||| index.zeroExtend 8

/-- `v[31:24]`, the first byte of a 32-bit value on the bus (R67, R93). -/
def wordByte3 (v : Word) : Byte := v.extractLsb' 24 8
/-- `v[23:16]`. -/
def wordByte2 (v : Word) : Byte := v.extractLsb' 16 8
/-- `v[15:8]`. -/
def wordByte1 (v : Word) : Byte := v.extractLsb' 8 8
/-- `v[7:0]`. -/
def wordByte0 (v : Word) : Byte := v.extractLsb' 0 8

/-- The 32-bit value whose bytes are sent in this order (R67). -/
def wordOfBytes (b3 b2 b1 b0 : Byte) : Word := b3 ++ b2 ++ b1 ++ b0

/-- The six bytes of a frame in bus order (R91). -/
def Frame.bytes (f : Frame) : List Byte :=
  [commandByte f.index, wordByte3 f.arg, wordByte2 f.arg, wordByte1 f.arg, wordByte0 f.arg, f.crc]

/-- The 83 bits of a request in 11 bytes, most significant first; the five bits above OP are zero (R102; log 14). -/
def Request.bytes (r : Request) : List Byte :=
  [r.op.zeroExtend 8, r.unit, r.query,
   wordByte3 r.sector, wordByte2 r.sector, wordByte1 r.sector, wordByte0 r.sector,
   wordByte3 r.count, wordByte2 r.count, wordByte1 r.count, wordByte0 r.count]

/-! ### Decoding -/

/-- The command an index and argument name (R108, R110). -/
def decodeCommand (index : BitVec 6) (arg : Word) : Except DecodeReject Instr :=
  if index = idxGoIdle then (if arg = 0 then .ok .cmd0 else .error .argument)
  else if index = idxIfCond then (if arg = argIfCond then .ok .cmd8 else .error .argument)
  else if index = idxApp then (if arg = 0 then .ok .cmd55 else .error .argument)
  else if index = idxSdOpCond then
    (if arg = 0 then .ok (.acmd41 false) else if arg = argHcs then .ok (.acmd41 true) else .error .argument)
  else if index = idxOpCond then (if arg = 0 then .ok .cmd1 else .error .argument)
  else if index = idxReadOcr then (if arg = 0 then .ok .cmd58 else .error .argument)
  else if index = idxReadBlock then .ok (.cmd17 arg)
  else if index = idxWriteBlock then .ok (.cmd24 arg)
  else .error .index

/-- A frame is decoded by its index and argument; its CRC byte must be the one of R94. -/
def decodeFrame (f : Frame) : Except DecodeReject Instr :=
  match decodeCommand f.index f.arg with
  | .ok i => if f.crc = crcFor f.index then .ok i else .error .crc
  | .error e => .error e

/-- A request is decoded by OP, and IOCTL by QUERY as well; the fields the operation does not use are ignored (R102, R104,
R107, R109). -/
def decodeRequest (r : Request) : Except DecodeReject Instr :=
  if r.op = opInitialize then .ok (.hostInitialize r.unit)
  else if r.op = opStatus then .ok (.hostStatus r.unit)
  else if r.op = opRead then .ok (.hostRead r.unit r.sector r.count)
  else if r.op = opWrite then .ok (.hostWrite r.unit r.sector r.count)
  else if r.op = opIoctl then
    (if r.query = queryCtrlSync then .ok (.ioctlCtrlSync r.unit)
     else if r.query = queryGetSectorSize then .ok (.ioctlGetSectorSize r.unit)
     else if r.query = queryGetBlockSize then .ok (.ioctlGetBlockSize r.unit)
     else .error .query)
  else .error .op

/-- Six bytes are a frame in bus order; eleven bytes are a request word, most significant byte first (R90). -/
def decode : List Byte → Except DecodeReject Instr
  | [b0, b1, b2, b3, b4, b5] =>
    if b0.extractLsb' 6 2 = 0b01#2 then decodeFrame ⟨b0.extractLsb' 0 6, wordOfBytes b1 b2 b3 b4, b5⟩
    else .error .startBits
  | [b0, b1, b2, b3, b4, b5, b6, b7, b8, b9, b10] =>
    if b0.extractLsb' 3 5 = 0#5 then
      decodeRequest ⟨b0.extractLsb' 0 3, b1, b2, wordOfBytes b3 b4 b5 b6, wordOfBytes b7 b8 b9 b10⟩
    else .error .padding
  | _ => .error .length

/-! ### Encoding -/

/-- The frame of a command index and argument, with its CRC byte (R91, R94). -/
def commandFrame (index : BitVec 6) (arg : Word) : Frame := ⟨index, arg, crcFor index⟩

/-- The argument of ACMD41 (R108, R178). -/
def acmd41Arg (hcs : Bool) : Word := if hcs then argHcs else 0

/-- What each instruction is written as; request fields an operation does not use are written 0 (R102, R110). -/
def Instr.encoded : Instr → Encoded
  | .cmd0 => .frame (commandFrame idxGoIdle 0)
  | .cmd8 => .frame (commandFrame idxIfCond argIfCond)
  | .cmd55 => .frame (commandFrame idxApp 0)
  | .acmd41 hcs => .frame (commandFrame idxSdOpCond (acmd41Arg hcs))
  | .cmd1 => .frame (commandFrame idxOpCond 0)
  | .cmd58 => .frame (commandFrame idxReadOcr 0)
  | .cmd17 arg => .frame (commandFrame idxReadBlock arg)
  | .cmd24 arg => .frame (commandFrame idxWriteBlock arg)
  | .hostInitialize unit => .request ⟨opInitialize, unit, 0, 0, 0⟩
  | .hostStatus unit => .request ⟨opStatus, unit, 0, 0, 0⟩
  | .hostRead unit sector count => .request ⟨opRead, unit, 0, sector, count⟩
  | .hostWrite unit sector count => .request ⟨opWrite, unit, 0, sector, count⟩
  | .ioctlCtrlSync unit => .request ⟨opIoctl, unit, queryCtrlSync, 0, 0⟩
  | .ioctlGetSectorSize unit => .request ⟨opIoctl, unit, queryGetSectorSize, 0, 0⟩
  | .ioctlGetBlockSize unit => .request ⟨opIoctl, unit, queryGetBlockSize, 0, 0⟩

/-- The bytes of a format (R91, R102). -/
def Encoded.bytes : Encoded → List Byte
  | .frame f => f.bytes
  | .request r => r.bytes

/-- The bytes of an instruction. -/
def encode (i : Instr) : List Byte := i.encoded.bytes

/-! ### The table's numbering -/

/-- The `n` low bytes of `w`, most significant first: "`F[47:40]` is sent first" (R91; log 14). -/
def bytesOfNat : Nat → Nat → List Byte
  | 0, _ => []
  | n + 1, w => BitVec.ofNat 8 (w >>> (8 * n)) :: bytesOfNat n w

/-- How many bytes the format of an opcode-table row of `nbits` bits has: 48 bits are a FRAME, 83 bits (88 in whole bytes) a
HOSTREQ. -/
def formatBytes (nbits : Nat) : Nat :=
  if nbits = 48 then 6 else if nbits = 83 || nbits = 88 then 11 else 0

/-- The instruction the decoder reads from a word numbered as opcode_table.json numbers it. -/
def decodeTableWord (nbits w : Nat) : Option Instr :=
  if w < 2 ^ nbits then
    match decode (bytesOfNat (formatBytes nbits) w) with
    | .ok i => some i
    | .error _ => none
  else none

/-- The frame a 48-bit word `F` holds (R91). -/
def Frame.ofNat (w : Nat) : Frame :=
  let f := BitVec.ofNat 48 w
  ⟨f.extractLsb' 40 6, f.extractLsb' 8 32, f.extractLsb' 0 8⟩

/-- The request an 83-bit word `REQ` holds (R102). -/
def Request.ofNat (w : Nat) : Request :=
  let r := BitVec.ofNat 83 w
  ⟨r.extractLsb' 80 3, r.extractLsb' 72 8, r.extractLsb' 64 8, r.extractLsb' 32 32, r.extractLsb' 0 32⟩

end Sys2Proof
end

