-- ==== Sys2Proof/Machine/State.lean ====
section
/-! DEFINITION. The state of the engine (10_state.md R20: "The complete state of the engine is the following list and nothing
else"), the reset state (R37), and the reasons a step can stop. -/

namespace Sys2Proof.Machine

/-- Card Type (R24): "{Unknown, SD-version-1/MMC, SD-version-2-or-SDHC}"; the code 3 is never produced (U6). -/
inductive CardType
  | unknown
  | v1Mmc
  | v2
  deriving DecidableEq, Repr

/-- The two-bit encoding of R24. -/
def CardType.bits : CardType → BitVec 2
  | .unknown => 0
  | .v1Mmc => 1
  | .v2 => 2

/-- Who called `Deselect()`: "return to caller" in the rows D_DESEL and D_IDLE of R29. -/
inductive DeselCaller
  /-- I_DONE, step 7 of INITIALIZE (R181) -/
  | initDone
  /-- I_FAIL (R182) -/
  | initFail
  /-- RD_DESEL (R205) -/
  | rdDesel
  /-- WR_DESEL (R213) -/
  | wrDesel
  /-- X_FAIL (R206, R214) -/
  | xFail
  deriving DecidableEq, Repr

/-- The labels of PHASE (R29). `iSpeedUp`, `rdCrc1` and `wrCrc1` are the second primitive call of I_DONE, RD_CRC and WR_CRC;
the caller of `Deselect` is kept with its labels, the caller of `SendCommand` and `ReadTrail` is told by IDX (log 7). -/
inductive Phase
  | idle
  | cDesel | cResync | cSel
  | cB0 | cB1 | cB2 | cB3 | cB4 | cB5
  | cPoll | cToDesel | cToIdle
  | t0 | t1 | t2 | t3
  | dDesel (caller : DeselCaller)
  | dIdle (caller : DeselCaller)
  | iSpeed | iCshigh | iPwrup
  | iCmd0 | iCmd8 | iR7 | iCmd55 | iAcmd41 | iCmd1 | iCmd58 | iOcr
  | iDone | iSpeedUp | iFail
  | rdCmd | rdToken | rdData | rdCrc0 | rdCrc1 | rdDesel
  | wrCmd | wrToken | wrData | wrCrc0 | wrCrc1 | wrResp | wrBusy | wrTrail | wrDesel
  | xFail
  deriving DecidableEq, Repr

/-- One event (00_scope.md R6, R13): a primitive call or an access to one buffer byte. -/
inductive Event
  /-- `SPD(hz)` -/
  | spd (hz : Nat)
  /-- `SEL(level)`: 1 high, deselected; 0 low, selected -/
  | sel (level : BitVec 1)
  /-- `X(out, inn)` -/
  | x (out inn : Byte)
  /-- `MemRead(Buf, off, 1)`, which gave `v` -/
  | memRead (off : Nat) (v : Byte)
  /-- `MemWrite(Buf, off, 1, v)` -/
  | memWrite (off : Nat) (v : Byte)
  deriving DecidableEq, Repr

/-- The Transfer Buffer (20_memory.md R60, R61): cells (offset, byte), offsets strictly rising, no cell equal to what an
unlisted offset reads as (`Memory.wf`, log 13). -/
abbrev Memory := List Host.Cell

/-- One request the host will place (R32): the request registers and, where the host hands over a new buffer with it, the
buffer's contents (R61, R305; log 4). -/
structure HostCall where
  req : Request
  buf : Option Memory
  deriving DecidableEq, Repr

/-- The state of R20, and beside it the caller's buffer, the configuration (fixed, log 1), and the model's own input lists and
event log (log 3, 4, 8). -/
@[ext]
structure State where
  /-- the OPEN parameters of R7; no step writes it -/
  cfg : Config
  /-- STATUS (R21) -/
  status : BitVec 8
  /-- CS (R26) -/
  cs : BitVec 1
  /-- SPEED (R27); `none` is UNSET -/
  speed : Option Nat
  /-- CTYPE (R24) -/
  ctype : CardType
  /-- CCS (R25) -/
  ccs : BitVec 1
  /-- PHASE (R28) -/
  phase : Phase
  /-- IDX (R30) -/
  idx : BitVec 6
  /-- ARG (R30) -/
  arg : Word
  /-- CRC (R30) -/
  crc : Byte
  /-- RESP (R30) -/
  resp : Byte
  /-- TRAIL0 to TRAIL3 (R30) -/
  trail0 : Byte
  trail1 : Byte
  trail2 : Byte
  trail3 : Byte
  /-- SECT (R30) -/
  sect : Word
  /-- SIDX (R30) -/
  sidx : Nat
  /-- BCNT (R30) -/
  bcnt : Nat
  /-- PCNT (R30) -/
  pcnt : Nat
  /-- ICNT (R30) -/
  icnt : Nat
  /-- OP (R32) -/
  op : BitVec 3
  /-- UNIT (R32) -/
  unit : Byte
  /-- SECTOR (R32) -/
  sector : Word
  /-- COUNT (R32) -/
  count : Word
  /-- QUERY (R32) -/
  query : Byte
  /-- CODE (R33) -/
  code : BitVec 3
  /-- FLAGS (R33) -/
  flags : Byte
  /-- VALUE (R33) -/
  value : Word
  /-- the caller's Transfer Buffer (R61) -/
  buf : Memory
  /-- the requests the host will place, one at a time, each when the engine is IDLE -/
  host : List HostCall
  /-- the bytes the card will answer with, one per exchange (R13 `miso`) -/
  card : List Byte
  /-- exchanges made so far: the argument of `Config.freeByte` -/
  xcount : Nat
  /-- the events so far, newest first -/
  log : List Event
  deriving DecidableEq, Repr

/-- Why the machine stops. Only the micro-sequencer raises it, and only in states no run reaches. -/
inductive Fault
  /-- Raised by the labels RD_DATA and WR_DATA for an offset outside the `COUNT * 512` bytes of the buffer: "the engine never
  accesses the buffer outside the region the source sizes" (20_memory.md R62, U15). Safe: the model stops. -/
  | bufferBounds (off : Nat)
  deriving DecidableEq, Repr

/-- Why the machine gives no meaning. -/
inductive Refusal
  /-- Raised by a refused arm of `exec` for an instruction without a meaning: none in this model. Safe. -/
  | notModelled (mnemonic : String)
  /-- Raised by the micro-sequencer when `SendCommand` or `ReadTrail` returns and IDX is the index of no caller: "no operation
  uses another; a model need not expose it" (U21). Safe: the model stops, in states no run reaches. -/
  | noCaller (index : BitVec 6)
  deriving DecidableEq, Repr

/-- The state after reset (R37, 70_reset_and_hazards.md R290). Registers R37 leaves unspecified are zero (log 9, 10, 11); the
configuration is the suggested one (log 1); buffer, input lists and log are empty (log 12). -/
def State.reset : State where
  cfg := Config.suggested
  status := 0x01
  cs := 1
  speed := none
  ctype := .unknown
  ccs := 0
  phase := .idle
  idx := 0
  arg := 0
  crc := 0
  resp := 0
  trail0 := 0
  trail1 := 0
  trail2 := 0
  trail3 := 0
  sect := 0
  sidx := 0
  bcnt := 0
  pcnt := 0
  icnt := 0
  op := 0
  unit := 0
  sector := 0
  count := 0
  query := 0
  code := 0
  flags := 0
  value := 0
  buf := []
  host := []
  card := []
  xcount := 0
  log := []

end Sys2Proof.Machine
end

