-- ==== Sys2Proof/Machine/Operands.lean ====
section
/-! DEFINITION. Operand forms: sector arithmetic, block arguments, buffer offsets, poll bounds, and the tests on received
bytes (20_memory.md R62 to R66; 30_encoding.md R95 to R101, R108; 40_command_engine.md R145, R149). -/

namespace Sys2Proof.Machine

/-- `BlockArg(s)`, the argument of CMD17 and CMD24 for the sector with index `s` (R64). -/
def blockArg (m : AddrMode) (s : Word) : Word :=
  match m with
  | .block => s
  | .byte => s * 512#32

/-- The index of the `i`-th sector of an operation, `(SECTOR + i) mod 2^32` (R65). -/
def sectorIndex (sector : Word) (i : Nat) : Word := sector + BitVec.ofNat 32 i

/-- The buffer offset of byte `j` of the `i`-th sector: "computed as a natural number and never wraps" (R62). -/
def bufOffset (i j : Nat) : Nat := i * sectorBytes + j

/-- The number of bytes of the buffer of a request with this COUNT (R60, R61). -/
def bufSize (count : Word) : Nat := count.toNat * sectorBytes

/-- The poll bound of the command with this index: `N_RESP_RESET` for the go-idle command, `N_RESP` for every other (R145). -/
def pollBound (c : Config) (index : BitVec 6) : Nat :=
  if index = idxGoIdle then c.nRespReset else c.nResp

/-- Filler of response polling: bit 7 set (R95). -/
def isFiller (r : Byte) : Bool := r &&& 0x80#8 != 0#8

/-- The data response byte is "accepted" (R99). -/
def dataAccepted (d : Byte) : Bool := d &&& drespMask == drespAccepted

/-- The capacity-status bit of the first OCR byte (R66, R96). -/
def capacityBit (t : Byte) : BitVec 1 := if t &&& ccsMask != 0#8 then 1 else 0

/-- The echo of CMD8 matches what was sent (R96, R175): `ARG_IF_COND[15:8]` in TRAIL2 and `ARG_IF_COND[7:0]` in TRAIL3. -/
def echoMatches (t2 t3 : Byte) : Bool := t2 == wordByte1 argIfCond && t3 == wordByte0 argIfCond

end Sys2Proof.Machine
end

