-- ==== Sys2Proof/Machine/Flags.lean ====
section
/-! DEFINITION. The status flag and the response registers (10_state.md R21 to R23, R33; 30_encoding.md R105, R106). -/

namespace Sys2Proof.Machine

/-- `STATUS.NOINIT = 1` (R21 bit 0). -/
def notInitialized (s : State) : Bool := s.status.getLsbD 0

/-- What a read of STATUS gives: bits 7:1 "read as 0" (R21; log 16). -/
def statusRead (s : State) : Byte := s.status &&& 0x01#8

/-- `STATUS.NOINIT <- 1` (R172): the reserved bits are not written. -/
def setNoinit (s : State) : State := { s with status := s.status ||| 0x01#8 }

/-- `STATUS.NOINIT <- 0` (R181). -/
def clearNoinit (s : State) : State := { s with status := s.status &&& 0xFE#8 }

/-- The value R33 gives FLAGS, which is what R230 answers for this unit: `0x01` if the unit is not the valid one, else STATUS. -/
def flagsFor (unit : Byte) (s : State) : Byte := if unit = unitValid then statusRead s else 0x01#8

/-- The end of an operation (00_scope.md R12): the response registers are set and PHASE returns to IDLE. -/
def respond (code : BitVec 3) (value : Word) (unit : Byte) (s : State) : State :=
  { s with code := code, flags := flagsFor unit s, value := value, phase := .idle }

end Sys2Proof.Machine
end

