-- ==== Sys2Proof/Machine/Ops.lean ====
section
/-! DEFINITION. The shared operations: the transfer buffer, the collaborator primitives (00_scope.md R11), the error exit
(60_exceptions.md R256) and the procedures of the Command Protocol Engine (40_command_engine.md R141, R143, R150). -/

namespace Sys2Proof.Machine

/-! ### The transfer buffer (20_memory.md R60 to R62) -/

/-- What an offset that is not listed reads as (DESIGN CHOICE, log 13). -/
def Memory.unlisted : Byte := 0

/-- The canonical form: offsets strictly rising, no cell equal to what an unlisted offset reads as. -/
def Memory.wf : Memory → Bool
  | [] => true
  | c :: m => c.2 != Memory.unlisted && m.all (fun d => decide (c.1 < d.1)) && Memory.wf m

/-- The byte at offset `a`. -/
def Memory.read : Memory → Nat → Byte
  | [], _ => Memory.unlisted
  | c :: m, a => if c.1 = a then c.2 else Memory.read m a

/-- Store `v` at offset `a`, keeping the canonical form. -/
def Memory.write : Memory → Nat → Byte → Memory
  | [], a, v => if v = Memory.unlisted then [] else [(a, v)]
  | c :: m, a, v =>
    if a < c.1 then (if v = Memory.unlisted then c :: m else (a, v) :: c :: m)
    else if a = c.1 then (if v = Memory.unlisted then m else (a, v) :: m)
    else c :: Memory.write m a v

/-! ### Primitives (00_scope.md R11) -/

/-- `PHASE <- p`. -/
def goto (p : Phase) (s : State) : State := { s with phase := p }

/-- `Select(a)`: asserts (drives low) or deasserts (drives high) the select line, and `CS <- (a ? 0 : 1)`. -/
def select (a : Bool) (s : State) : State :=
  let level : BitVec 1 := if a then 0 else 1
  { s with cs := level, log := .sel level :: s.log }

/-- `SetSpeed(hz)`, and `SPEED <- hz`. -/
def setSpeed (hz : Nat) (s : State) : State := { s with speed := some hz, log := .spd hz :: s.log }

/-- The byte the card answers in the next exchange: the next scripted byte, or the free value (R13, R36; log 3). -/
def rx (s : State) : Byte :=
  match s.card with
  | b :: _ => b
  | [] => Config.freeByte s.xcount

/-- `Xchg(o)`: one byte sent, one byte received; the received byte is `rx s`. -/
def xchg (o : Byte) (s : State) : State :=
  { s with card := s.card.tail, xcount := s.xcount + 1, log := .x o (rx s) :: s.log }

/-- `MemWrite(Buf, off, 1, v)` (R10). -/
def memWrite (off : Nat) (v : Byte) (s : State) : State :=
  { s with buf := s.buf.write off v, log := .memWrite off v :: s.log }

/-- The event of `MemRead(Buf, off, 1)` (R10); the byte read is `s.buf.read off`. -/
def noteMemRead (off : Nat) (s : State) : State := { s with log := .memRead off (s.buf.read off) :: s.log }

/-! ### Deselect and the idle byte (R141, R142) -/

/-- `Deselect()`: the select line is driven high, then one idle byte; it does not test CS first. -/
def deselect (s : State) : State := xchg idleByte (select false s)

/-! ### Errors (60_exceptions.md R250 to R257)

The engine's exceptions are the four error kinds. Nothing is saved and there is no return (R256, R260): control goes to the
host, which sees CODE and FLAGS. -/

/-- The error kinds of R250. -/
inductive ErrorKind
  | parameterError
  | notReady
  | transferError
  | initializationFailure
  deriving DecidableEq, Repr

/-- CODE of an error (R105); InitializationFailure "has no result code", CODE is 0 for INITIALIZE (R33, R254). -/
def errorCode : ErrorKind → BitVec 3
  | .parameterError => resParErr
  | .notReady => resNotRdy
  | .transferError => resError
  | .initializationFailure => resOk

/-- `raise E` before any bus event (R256: "take no exit action"): response registers, IDLE. -/
def raiseError (e : ErrorKind) (unit : Byte) (s : State) : State := respond (errorCode e) 0 unit s

/-- The error exit of TransferError and InitializationFailure (R256): `Deselect()`, response registers, IDLE. -/
def errorExit (e : ErrorKind) (unit : Byte) (s : State) : State := raiseError e unit (deselect s)

/-! ### SendCommand (R143 to R148) -/

/-- The entry of `SendCommand`: the Command Descriptor is loaded, RESP and PCNT are set. -/
def loadDescriptor (index : BitVec 6) (arg : Word) (s : State) : State :=
  { s with idx := index, arg := arg, crc := crcFor index, resp := 0xFF, pcnt := 0 }

/-- The frame the descriptor holds (30_encoding.md R91). -/
def descriptor (s : State) : Frame := ⟨s.idx, s.arg, s.crc⟩

/-- Labels C_B0 to C_B5: the six frame bytes; the bytes received meanwhile are ignored (R91). -/
def sendFrame (s : State) : State :=
  xchg s.crc (xchg (wordByte0 s.arg) (xchg (wordByte1 s.arg) (xchg (wordByte2 s.arg) (xchg (wordByte3 s.arg)
    (xchg (commandByte s.idx) s)))))

/-- One response poll: `RESP <- Xchg(IDLE_BYTE); PCNT <- PCNT + 1`. -/
def pollOnce (s : State) : State := { xchg idleByte s with resp := rx s, pcnt := s.pcnt + 1 }

/-- Label C_POLL with `n` polls left, and the timeout path C_TO_DESEL, C_TO_IDLE (R145, R146). -/
def pollResponse : Nat → State → State
  | 0, s => deselect s
  | n + 1, s => if isFiller (pollOnce s).resp then pollResponse n (pollOnce s) else pollOnce s

/-- `SendCommand(index, arg, bound)`; the returned byte is RESP of the answered state (R143). -/
def sendCommand (index : BitVec 6) (arg : Word) (bound : Nat) (s : State) : State :=
  pollResponse bound (sendFrame (select true (deselect (loadDescriptor index arg s))))

/-- `SendCommand` with the bound every caller passes with this index (R145). -/
def command (index : BitVec 6) (arg : Word) (s : State) : State :=
  sendCommand index arg (pollBound s.cfg index) s

/-! ### ReadTrail (R150) -/

/-- Labels T_0 to T_3. -/
def readTrail0 (s : State) : State := { xchg idleByte s with trail0 := rx s }
def readTrail1 (s : State) : State := { xchg idleByte s with trail1 := rx s }
def readTrail2 (s : State) : State := { xchg idleByte s with trail2 := rx s }
def readTrail3 (s : State) : State := { xchg idleByte s with trail3 := rx s }

/-- `ReadTrail()`: "exactly four exchanges are made and whatever arrives is stored". -/
def readTrail (s : State) : State := readTrail3 (readTrail2 (readTrail1 (readTrail0 s)))

end Sys2Proof.Machine
end

