-- ==== Sys2Proof/Machine/BlockTransfer.lean ====
section
/-! DEFINITION. The Block Transfer Protocol (42_block_transfer.md R200 to R217): READ, WRITE, CMD17, CMD24. -/

namespace Sys2Proof.Machine

/-! ### Pre-checks (R201) -/

/-- The first pre-check of READ and WRITE that fails, in the order of R201 and R255. -/
def transferCheck (unit : Byte) (count : Word) (s : State) : Option ErrorKind :=
  if unit ≠ unitValid then some .parameterError
  else if count = 0 then some .parameterError
  else if notInitialized s then some .notReady
  else none

/-! ### Response handling and loop heads -/

/-- The loop head of token polling (R203): exhausted means X_FAIL. -/
def tokenHead (s : State) : State := goto (if s.pcnt < s.cfg.nToken then .rdToken else .xFail) s

/-- After CMD17 (R202, R203). -/
def afterCmd17 (s : State) : State :=
  if s.resp = respReady then tokenHead { s with pcnt := 0 } else goto .xFail s

/-- After CMD24 (R208, R209). -/
def afterCmd24 (s : State) : State := goto (if s.resp = respReady then .wrToken else .xFail) s

/-- The loop head of the busy-wait (R212): exhausted means X_FAIL. -/
def busyHead (s : State) : State := goto (if s.pcnt < s.cfg.nBusy then .wrBusy else .xFail) s

/-- CMD17 (R202). -/
def runCmd17 (arg : Word) (s : State) : State := afterCmd17 (command idxReadBlock arg s)

/-- CMD24 (R208). -/
def runCmd24 (arg : Word) (s : State) : State := afterCmd24 (command idxWriteBlock arg s)

/-- CMD17. -/
def execCmd17 (arg : Word) (s : State) : Host.Outcome State Fault Refusal := .next (runCmd17 arg s)

/-- CMD24. -/
def execCmd24 (arg : Word) (s : State) : Host.Outcome State Fault Refusal := .next (runCmd24 arg s)

/-! ### One step of each inner loop -/

/-- One exchange whose outcome a bounded wait counts: `Xchg(IDLE_BYTE); PCNT <- PCNT + 1`. -/
def waitOnce (s : State) : State := { xchg idleByte s with pcnt := s.pcnt + 1 }

/-- One payload byte of READ (R204): received, then stored. -/
def readByte (s : State) : State :=
  { memWrite (bufOffset s.sidx s.bcnt) (rx s) (xchg idleByte s) with bcnt := s.bcnt + 1 }

/-- One payload byte of WRITE (R209): read from the buffer, then sent. -/
def writeByte (s : State) : State :=
  let off := bufOffset s.sidx s.bcnt
  { xchg (s.buf.read off) (noteMemRead off s) with bcnt := s.bcnt + 1 }

/-! ### READ (R206) -/

/-- Label RD_TOKEN with `n` polls left (R203, 30_encoding.md R101); it ends at RD_DATA or X_FAIL. -/
def tokenWait : Nat → State → State
  | 0, s => goto .xFail s
  | n + 1, s =>
    if rx s = tokenStart then goto .rdData { waitOnce s with bcnt := 0 }
    else if rx s = tokenFiller then tokenWait n (waitOnce s)
    else goto .xFail (waitOnce s)

/-- Label RD_DATA with `n` bytes left (R204). -/
def readPayload : Nat → State → State
  | 0, s => s
  | n + 1, s => readPayload n (readByte s)

/-- One sector of READ, from RD_CMD to `SIDX <- SIDX + 1`; a failure leaves PHASE at X_FAIL (R206). -/
def readSector (s : State) : State :=
  let s := runCmd17 (blockArg s.cfg.addrMode s.sect) s
  if s.resp = respReady then
    let s := tokenWait s.cfg.nToken s
    if s.phase = .xFail then s
    else
      let s := deselect (xchg idleByte (xchg idleByte (readPayload sectorBytes s)))
      goto .rdCmd { s with sidx := s.sidx + 1 }
  else s

/-- The sector loop of READ with `n` sectors left (R206). -/
def readSectors (unit : Byte) (sector : Word) : Nat → State → State
  | 0, s => respond resOk 0 unit s
  | n + 1, s =>
    let s := readSector { s with sect := sectorIndex sector s.sidx }
    if s.phase = .xFail then errorExit .transferError unit s else readSectors unit sector n s

/-- READ (R206). -/
def execHostRead (unit : Byte) (sector count : Word) (s : State) : Host.Outcome State Fault Refusal :=
  match transferCheck unit count s with
  | some e => .next (raiseError e unit s)
  | none => .next (readSectors unit sector count.toNat { s with sidx := 0 })

/-! ### WRITE (R214) -/

/-- Label WR_DATA with `n` bytes left (R209). -/
def writePayload : Nat → State → State
  | 0, s => s
  | n + 1, s => writePayload n (writeByte s)

/-- Label WR_BUSY with `n` polls left (R212, 30_encoding.md R100); it ends at WR_TRAIL or X_FAIL. -/
def busyWait : Nat → State → State
  | 0, s => goto .xFail s
  | n + 1, s => if rx s = notBusy then goto .wrTrail (waitOnce s) else busyWait n (waitOnce s)

/-- Labels WR_TOKEN, WR_DATA, WR_CRC (R209, R210). -/
def sendBlock (s : State) : State :=
  xchg crcDataDummy (xchg crcDataDummy (writePayload sectorBytes { xchg tokenStart s with bcnt := 0 }))

/-- After the data response byte `d` (R211): accepted starts the busy-wait. -/
def afterDataResponse (d : Byte) (s : State) : State :=
  if dataAccepted d then busyHead { s with pcnt := 0 } else goto .xFail s

/-- One sector of WRITE, from WR_CMD to `SIDX <- SIDX + 1`; a failure leaves PHASE at X_FAIL (R214). -/
def writeSector (s : State) : State :=
  let s := runCmd24 (blockArg s.cfg.addrMode s.sect) s
  if s.resp = respReady then
    let s := sendBlock s
    let d := rx s
    let s := afterDataResponse d (xchg idleByte s)
    if dataAccepted d then
      let s := busyWait s.cfg.nBusy s
      if s.phase = .xFail then s
      else
        let s := deselect (xchg idleByte s)
        goto .wrCmd { s with sidx := s.sidx + 1 }
    else s
  else s

/-- The sector loop of WRITE with `n` sectors left (R214). -/
def writeSectors (unit : Byte) (sector : Word) : Nat → State → State
  | 0, s => respond resOk 0 unit s
  | n + 1, s =>
    let s := writeSector { s with sect := sectorIndex sector s.sidx }
    if s.phase = .xFail then errorExit .transferError unit s else writeSectors unit sector n s

/-- WRITE (R214). -/
def execHostWrite (unit : Byte) (sector count : Word) (s : State) : Host.Outcome State Fault Refusal :=
  match transferCheck unit count s with
  | some e => .next (raiseError e unit s)
  | none => .next (writeSectors unit sector count.toNat { s with sidx := 0 })

end Sys2Proof.Machine
end

