-- ==== Sys2Proof/Machine/Initialization.lean ====
section
/-! DEFINITION. The Initialization State Machine (41_initialization.md R170 to R186): INITIALIZE and the wire commands CMD0,
CMD8, CMD55, ACMD41, CMD1, CMD58. The definitions `after…` are the response handling of one command, shared by the wire
instruction, by INITIALIZE and by the micro-sequencer; each moves PHASE to the label R184 gives. -/

namespace Sys2Proof.Machine

/-! ### Response handling (R174 to R180, R184) -/

/-- The loop head of step 4 (R176): `if ICNT >= N_ACMD: goto I_FAIL`, else the next iteration. -/
def acmdLoopHead (s : State) : State := goto (if s.icnt < s.cfg.nAcmd then .iCmd55 else .iFail) s

/-- After CMD0 (R174). -/
def afterCmd0 (s : State) : State := goto (if s.resp = respIdle then .iCmd8 else .iFail) s

/-- Step 4 begins: `ICNT <- 0`, then the loop head (R176). -/
def beginAcmdLoop (s : State) : State := acmdLoopHead { s with icnt := 0 }

/-- After the response to CMD8: the class is legacy until the echo is seen; trailing bytes only after `0x01` (R175). -/
def afterCmd8 (s : State) : State :=
  if s.resp = respIdle then goto .iR7 { s with ctype := .v1Mmc } else beginAcmdLoop { s with ctype := .v1Mmc }

/-- After the trailing bytes of CMD8 (R175). -/
def afterR7 (s : State) : State :=
  beginAcmdLoop (if echoMatches s.trail2 s.trail3 then { s with ctype := .v2 } else s)

/-- After CMD55 (R176, R177): "greater than `0x01` aborts the loop". -/
def afterCmd55 (s : State) : State := goto (if respIdle < s.resp then .iCmd1 else .iAcmd41) s

/-- After ACMD41 (R176, R178): exactly `0x00` ends the loop, everything else counts an iteration. -/
def afterAcmd41 (s : State) : State :=
  if s.resp = respReady then goto (if s.ctype = .v2 then .iCmd58 else .iDone) s
  else acmdLoopHead { s with icnt := s.icnt + 1 }

/-- After CMD1 (R179): the fallback is issued exactly once. -/
def afterCmd1 (s : State) : State := goto (if s.resp = respReady then .iDone else .iFail) s

/-- After the response to CMD58 (R180). -/
def afterCmd58 (s : State) : State := goto (if s.resp = respReady then .iOcr else .iDone) s

/-- After the OCR bytes of CMD58 (R180): the capacity-status bit is latched, "its outcome is advisory". -/
def afterOcr (s : State) : State := goto .iDone { s with ccs := capacityBit s.trail0 }

/-! ### The wire commands -/

/-- Step 2, CMD0 (R174). -/
def runCmd0 (s : State) : State := afterCmd0 (command idxGoIdle 0 s)

/-- Step 3, CMD8 with its trailing bytes (R175). -/
def runCmd8 (s : State) : State :=
  let s := afterCmd8 (command idxIfCond argIfCond s)
  if s.phase = .iR7 then afterR7 (readTrail s) else s

/-- First half of an iteration of step 4, CMD55 (R177). -/
def runCmd55 (s : State) : State := afterCmd55 (command idxApp 0 s)

/-- Second half of an iteration of step 4, ACMD41 (R178). -/
def runAcmd41 (hcs : Bool) (s : State) : State := afterAcmd41 (command idxSdOpCond (acmd41Arg hcs) s)

/-- Step 5, CMD1 (R179). -/
def runCmd1 (s : State) : State := afterCmd1 (command idxOpCond 0 s)

/-- Step 6, CMD58 with its trailing bytes (R180). -/
def runCmd58 (s : State) : State :=
  let s := afterCmd58 (command idxReadOcr 0 s)
  if s.phase = .iOcr then afterOcr (readTrail s) else s

/-- CMD0. -/
def execCmd0 (s : State) : Host.Outcome State Fault Refusal := .next (runCmd0 s)

/-- CMD8. -/
def execCmd8 (s : State) : Host.Outcome State Fault Refusal := .next (runCmd8 s)

/-- CMD55. -/
def execCmd55 (s : State) : Host.Outcome State Fault Refusal := .next (runCmd55 s)

/-- ACMD41, the second frame of the application command (R116). -/
def execAcmd41 (hcs : Bool) (s : State) : Host.Outcome State Fault Refusal := .next (runAcmd41 hcs s)

/-- CMD1. -/
def execCmd1 (s : State) : Host.Outcome State Fault Refusal := .next (runCmd1 s)

/-- CMD58. -/
def execCmd58 (s : State) : Host.Outcome State Fault Refusal := .next (runCmd58 s)

/-! ### INITIALIZE (R183) -/

/-- The start of a request with the valid unit (R172). -/
def initStart (s : State) : State := { setNoinit s with ctype := .unknown, ccs := 0 }

/-- Label I_PWRUP with `n` idle bytes left (R173). -/
def powerUp : Nat → State → State
  | 0, s => s
  | n + 1, s => powerUp n { xchg idleByte s with pcnt := s.pcnt + 1 }

/-- Step 1, Bus Reset (R173). -/
def busReset (s : State) : State :=
  powerUp s.cfg.nPwrup { select false (setSpeed s.cfg.fSlow s) with pcnt := 0 }

/-- The last actions of step 7 after `Deselect()` (R181): `SetSpeed(F_FAST)`, `NOINIT <- 0`, `FLAGS = STATUS`. -/
def speedUp (s : State) : State := respond resOk 0 unitValid (clearNoinit (setSpeed s.cfg.fFast s))

/-- Step 7, label I_DONE (R181). -/
def initDone (s : State) : State := speedUp (deselect s)

/-- The failure exit, label I_FAIL (R182): STATUS stays `0x01` because of R172. -/
def initFail (s : State) : State := errorExit .initializationFailure unitValid s

/-- Step 5 and what follows it (R179, R183). -/
def legacyFallback (s : State) : State :=
  let s := runCmd1 s
  if s.resp = respReady then initDone s else initFail s

/-- `after_loop` of R183: step 6 only when CTYPE is V2. -/
def afterLoop (s : State) : State := if s.ctype = .v2 then initDone (runCmd58 s) else initDone s

/-- Step 4 with `n` iterations left, to the end of the operation (R176, R183). -/
def acmdLoop : Nat → State → State
  | 0, s => initFail s
  | n + 1, s =>
    let s := runCmd55 s
    if respIdle < s.resp then legacyFallback s
    else
      let s := runAcmd41 (s.ctype == .v2) s
      if s.resp = respReady then afterLoop s else acmdLoop n s

/-- INITIALIZE with the valid unit (R183). -/
def initializeCard (s : State) : State :=
  let s := runCmd0 (busReset (initStart s))
  if s.resp = respIdle then acmdLoop s.cfg.nAcmd (runCmd8 s) else initFail s

/-- INITIALIZE: an invalid unit returns `FLAGS = 0x01` and nothing else happens (R171). -/
def execHostInitialize (unit : Byte) (s : State) : Host.Outcome State Fault Refusal :=
  .next (if unit = unitValid then initializeCard s else respond resOk 0 unit s)

end Sys2Proof.Machine
end

