-- ==== Sys2Proof/Machine/StatusIoctl.lean ====
section
/-! DEFINITION. Device Status and ioctl (43_status_ioctl.md R230 to R236), and the answer to a request that selects no
operation (30_encoding.md R111, R112). None makes a bus event, touches the buffer or changes a lasting register. -/

namespace Sys2Proof.Machine

/-- STATUS (R230): FLAGS is `0x01` for an invalid unit, else the STATUS register; CODE and VALUE are 0. -/
def execHostStatus (unit : Byte) (s : State) : Host.Outcome State Fault Refusal := .next (respond resOk 0 unit s)

/-- The gate and the answer of a supported query (R231). -/
def answerQuery (answer : Word) (unit : Byte) (s : State) : State :=
  if unit ≠ unitValid then raiseError .parameterError unit s
  else if notInitialized s then raiseError .notReady unit s
  else respond resOk answer unit s

/-- IOCTL CTRL_SYNC (R232): a no-op, VALUE = 0. -/
def execIoctlCtrlSync (unit : Byte) (s : State) : Host.Outcome State Fault Refusal := .next (answerQuery 0 unit s)

/-- IOCTL GET_SECTOR_SIZE (R233): VALUE = 512. -/
def execIoctlGetSectorSize (unit : Byte) (s : State) : Host.Outcome State Fault Refusal := .next (answerQuery 512 unit s)

/-- IOCTL GET_BLOCK_SIZE (R234): VALUE = 1 sector. -/
def execIoctlGetBlockSize (unit : Byte) (s : State) : Host.Outcome State Fault Refusal := .next (answerQuery 1 unit s)

/-- A request with OP 5 to 7 (R111), or IOCTL with an unsupported QUERY (R112, R235), whatever the unit and the status:
ParameterError, VALUE = 0. -/
def rejectRequest (s : State) : State := raiseError .parameterError s.unit s

end Sys2Proof.Machine
end

