-- ==== Sys2Proof/Machine/Dispatch.lean ====
section
/-! DEFINITION. exec: one arm per constructor of Instr, each one direct call of the instruction's meaning. -/

namespace Sys2Proof.Machine

def exec (i : Instr) (s : State) : Host.Outcome State Fault Refusal :=
  match i with
  | .cmd0 => Sys2Proof.Machine.execCmd0 s
  | .cmd8 => Sys2Proof.Machine.execCmd8 s
  | .cmd55 => Sys2Proof.Machine.execCmd55 s
  | .acmd41 hcs => Sys2Proof.Machine.execAcmd41 hcs s
  | .cmd1 => Sys2Proof.Machine.execCmd1 s
  | .cmd58 => Sys2Proof.Machine.execCmd58 s
  | .cmd17 arg => Sys2Proof.Machine.execCmd17 arg s
  | .cmd24 arg => Sys2Proof.Machine.execCmd24 arg s
  | .hostInitialize unit => Sys2Proof.Machine.execHostInitialize unit s
  | .hostStatus unit => Sys2Proof.Machine.execHostStatus unit s
  | .hostRead unit sector count => Sys2Proof.Machine.execHostRead unit sector count s
  | .hostWrite unit sector count => Sys2Proof.Machine.execHostWrite unit sector count s
  | .ioctlCtrlSync unit => Sys2Proof.Machine.execIoctlCtrlSync unit s
  | .ioctlGetSectorSize unit => Sys2Proof.Machine.execIoctlGetSectorSize unit s
  | .ioctlGetBlockSize unit => Sys2Proof.Machine.execIoctlGetBlockSize unit s

end Sys2Proof.Machine
end

