-- ==== Sys2Proof/Machine/Sequencer.lean ====
section
/-! DEFINITION. The sequencer at the grain of 10_state.md R28: "Each primitive call is one step; after the call `PHASE` moves
to the label of the next call". `tick` is one such step. Labels that name a procedure call (I_CMD0, RD_DESEL, ...) take one
step without an event, which enters the procedure (log 7). -/

namespace Sys2Proof.Machine

/-- Sampling a request on leaving IDLE (R32): the request registers are loaded, and the buffer is the caller's. -/
def sample (c : HostCall) (rest : List HostCall) (s : State) : State :=
  { s with op := c.req.op, unit := c.req.unit, query := c.req.query, sector := c.req.sector, count := c.req.count,
           buf := c.buf.getD s.buf, host := rest }

/-- The request the request registers hold (30_encoding.md R102). -/
def request (s : State) : Request := ⟨s.op, s.unit, s.query, s.sector, s.count⟩

/-! ### Moves between labels -/

/-- The loop head of response polling (R143): C_POLL while polls remain, else the timeout path. -/
def pollHead (s : State) : State :=
  goto (if s.pcnt < pollBound s.cfg s.idx then .cPoll else .cToDesel) s

/-- `SendCommand` returns to its caller, which IDX tells (R29, R149). -/
def returnCommand (s : State) : Host.Outcome State Fault Refusal :=
  if s.idx = idxGoIdle then .next (afterCmd0 s)
  else if s.idx = idxIfCond then .next (afterCmd8 s)
  else if s.idx = idxApp then .next (afterCmd55 s)
  else if s.idx = idxSdOpCond then .next (afterAcmd41 s)
  else if s.idx = idxOpCond then .next (afterCmd1 s)
  else if s.idx = idxReadOcr then .next (afterCmd58 s)
  else if s.idx = idxReadBlock then .next (afterCmd17 s)
  else if s.idx = idxWriteBlock then .next (afterCmd24 s)
  else .refused (.noCaller s.idx)

/-- `ReadTrail` returns to its caller: step 3 or step 6 of INITIALIZE. -/
def returnTrail (s : State) : Host.Outcome State Fault Refusal :=
  if s.idx = idxIfCond then .next (afterR7 s)
  else if s.idx = idxReadOcr then .next (afterOcr s)
  else .refused (.noCaller s.idx)

/-- The label `sector:` of R206 and R214: success when all sectors are done, else SECT and the command. -/
def sectorHead (cmd : Phase) (s : State) : State :=
  if s.sidx = s.count.toNat then respond resOk 0 s.unit s
  else goto cmd { s with sect := sectorIndex s.sector s.sidx }

/-- `Deselect` returns to its caller. -/
def returnDeselect (caller : DeselCaller) (s : State) : State :=
  match caller with
  | .initDone => goto .iSpeedUp s
  | .initFail => raiseError .initializationFailure unitValid s
  | .rdDesel => sectorHead .rdCmd { s with sidx := s.sidx + 1 }
  | .wrDesel => sectorHead .wrCmd { s with sidx := s.sidx + 1 }
  | .xFail => raiseError .transferError s.unit s

/-- Entry of `SendCommand`: the descriptor is loaded, then C_DESEL. -/
def enterCommand (index : BitVec 6) (arg : Word) (s : State) : State := goto .cDesel (loadDescriptor index arg s)

/-- The loop head of the power-up idle bytes (R173). -/
def powerUpHead (s : State) : State := goto (if s.pcnt < s.cfg.nPwrup then .iPwrup else .iCmd0) s

/-- One access to the buffer at the offset of the current byte, inside the region R62 sizes. -/
def inBuffer (s : State) (t : State) : Host.Outcome State Fault Refusal :=
  if bufOffset s.sidx s.bcnt < bufSize s.count then .next t else .fault (.bufferBounds (bufOffset s.sidx s.bcnt))

/-- A request leaves IDLE (R29, R183, R201, R206, R214): its pre-checks, then its first label or straight back to IDLE. -/
def startRequest (s : State) : Host.Outcome State Fault Refusal :=
  match decodeRequest (request s) with
  | .ok (.hostInitialize unit) =>
    .next (if unit = unitValid then goto .iSpeed (initStart s) else respond resOk 0 unit s)
  | .ok (.hostRead unit _ count) =>
    match transferCheck unit count s with
    | some e => .next (raiseError e unit s)
    | none => .next (sectorHead .rdCmd { s with sidx := 0 })
  | .ok (.hostWrite unit _ count) =>
    match transferCheck unit count s with
    | some e => .next (raiseError e unit s)
    | none => .next (sectorHead .wrCmd { s with sidx := 0 })
  | .ok i => exec i s
  | .error _ => .next (rejectRequest s)

/-! ### One step -/

/-- One step of the sequencer (R28, R29). -/
def tick (s : State) : Host.Outcome State Fault Refusal :=
  match s.phase with
  | .idle =>
    match s.host with
    | [] => .next s
    | c :: rest => startRequest (sample c rest s)
  -- SendCommand (R143)
  | .cDesel => .next (goto .cResync (select false s))
  | .cResync => .next (goto .cSel (xchg idleByte s))
  | .cSel => .next (goto .cB0 (select true s))
  | .cB0 => .next (goto .cB1 (xchg (commandByte s.idx) s))
  | .cB1 => .next (goto .cB2 (xchg (wordByte3 s.arg) s))
  | .cB2 => .next (goto .cB3 (xchg (wordByte2 s.arg) s))
  | .cB3 => .next (goto .cB4 (xchg (wordByte1 s.arg) s))
  | .cB4 => .next (goto .cB5 (xchg (wordByte0 s.arg) s))
  | .cB5 => .next (pollHead (xchg s.crc s))
  | .cPoll => if isFiller (rx s) then .next (pollHead (pollOnce s)) else returnCommand (pollOnce s)
  | .cToDesel => .next (goto .cToIdle (select false s))
  | .cToIdle => returnCommand (xchg idleByte s)
  -- ReadTrail (R150)
  | .t0 => .next (goto .t1 (readTrail0 s))
  | .t1 => .next (goto .t2 (readTrail1 s))
  | .t2 => .next (goto .t3 (readTrail2 s))
  | .t3 => returnTrail (readTrail3 s)
  -- Deselect (R141)
  | .dDesel caller => .next (goto (.dIdle caller) (select false s))
  | .dIdle caller => .next (returnDeselect caller (xchg idleByte s))
  -- INITIALIZE (R183)
  | .iSpeed => .next (goto .iCshigh (setSpeed s.cfg.fSlow s))
  | .iCshigh => .next (powerUpHead { select false s with pcnt := 0 })
  | .iPwrup => .next (powerUpHead { xchg idleByte s with pcnt := s.pcnt + 1 })
  | .iCmd0 => .next (enterCommand idxGoIdle 0 s)
  | .iCmd8 => .next (enterCommand idxIfCond argIfCond s)
  | .iR7 => .next (goto .t0 s)
  | .iCmd55 => .next (enterCommand idxApp 0 s)
  | .iAcmd41 => .next (enterCommand idxSdOpCond (acmd41Arg (s.ctype == .v2)) s)
  | .iCmd1 => .next (enterCommand idxOpCond 0 s)
  | .iCmd58 => .next (enterCommand idxReadOcr 0 s)
  | .iOcr => .next (goto .t0 s)
  | .iDone => .next (goto (.dDesel .initDone) s)
  | .iSpeedUp => .next (speedUp s)
  | .iFail => .next (goto (.dDesel .initFail) s)
  -- READ (R206)
  | .rdCmd => .next (enterCommand idxReadBlock (blockArg s.cfg.addrMode s.sect) s)
  | .rdToken =>
    if rx s = tokenStart then .next (goto .rdData { waitOnce s with bcnt := 0 })
    else if rx s = tokenFiller then .next (tokenHead (waitOnce s))
    else .next (goto .xFail (waitOnce s))
  | .rdData => inBuffer s (goto (if s.bcnt + 1 < sectorBytes then .rdData else .rdCrc0) (readByte s))
  | .rdCrc0 => .next (goto .rdCrc1 (xchg idleByte s))
  | .rdCrc1 => .next (goto .rdDesel (xchg idleByte s))
  | .rdDesel => .next (goto (.dDesel .rdDesel) s)
  -- WRITE (R214)
  | .wrCmd => .next (enterCommand idxWriteBlock (blockArg s.cfg.addrMode s.sect) s)
  | .wrToken => .next (goto .wrData { xchg tokenStart s with bcnt := 0 })
  | .wrData => inBuffer s (goto (if s.bcnt + 1 < sectorBytes then .wrData else .wrCrc0) (writeByte s))
  | .wrCrc0 => .next (goto .wrCrc1 (xchg crcDataDummy s))
  | .wrCrc1 => .next (goto .wrResp (xchg crcDataDummy s))
  | .wrResp => .next (afterDataResponse (rx s) (xchg idleByte s))
  | .wrBusy =>
    if rx s = notBusy then .next (goto .wrTrail (waitOnce s)) else .next (busyHead (waitOnce s))
  | .wrTrail => .next (goto .wrDesel (xchg idleByte s))
  | .wrDesel => .next (goto (.dDesel .wrDesel) s)
  -- error exit (60_exceptions.md R256)
  | .xFail => .next (goto (.dDesel .xFail) s)

/-- `n` steps of the sequencer, stopping at the first fault or refusal. -/
def ticks : Nat → State → Host.Outcome State Fault Refusal
  | 0, s => .next s
  | n + 1, s =>
    match tick s with
    | .next t => ticks n t
    | .fault r => .fault r
    | .refused r => .refused r

end Sys2Proof.Machine
end

