-- ==== Sys2Proof/Machine/Step.lean ====
section
/-! DEFINITION. One step of the machine (10_state.md R28; log 6). There are two places an instruction is fetched from: in IDLE
the request registers (a host operation, run to its end: "A model may instead give each operation as one big step"), and at
C_DESEL the Command Descriptor (one wire command with its response handling). At every other label the step is `tick`. -/

namespace Sys2Proof.Machine

/-- One step. In IDLE with no request the engine waits: "no rule changes state while `PHASE = IDLE`" (R38). -/
def step (s : State) : Host.Outcome State Fault Refusal :=
  match s.phase with
  | .idle =>
    match s.host with
    | [] => .next s
    | c :: rest =>
      match decodeRequest c.req with
      | .ok i => exec i (sample c rest s)
      | .error _ => .next (rejectRequest (sample c rest s))
  | .cDesel =>
    match decodeFrame (descriptor s) with
    | .ok i => exec i s
    | .error _ => tick s
  | _ => tick s

/-- `s` with the instruction of `nbits` bits stored where `step` fetches its next instruction (log 5): a frame of 48 bits in
the Command Descriptor with PHASE at C_DESEL; a request as the next one the host places, with PHASE at IDLE. -/
def State.withFetchWord (s : State) (nbits w : Nat) : State :=
  if nbits = 48 then
    let f := Frame.ofNat w
    { s with phase := .cDesel, idx := f.index, arg := f.arg, crc := f.crc }
  else
    { s with phase := .idle, host := ⟨Request.ofNat w, none⟩ :: s.host }

end Sys2Proof.Machine
end

