-- ==== Sys2Proof/Safety.lean ====
section
/-! DEFINITION. What counts as a safe run, in the terms claims use: the invariant of the state, and the bus discipline of the
event log (10_state.md R21 to R39; 70_reset_and_hazards.md R303). -/

namespace Sys2Proof.Machine

/-! ### Where the sequencer is -/

/-- The level of the select line at a label, where the engine relies on it: 1 high, 0 low (R26, R147, R150). -/
def Phase.line : Phase → Option (BitVec 1)
  | .idle | .cResync | .cSel | .cToIdle | .dIdle _ | .iPwrup | .iSpeedUp => some 1
  | .cB0 | .cB1 | .cB2 | .cB3 | .cB4 | .cB5 | .cPoll | .cToDesel => some 0
  | .t0 | .t1 | .t2 | .t3 | .iR7 | .iOcr => some 0
  | .rdToken | .rdData | .rdCrc0 | .rdCrc1 | .rdDesel | .dDesel .rdDesel => some 0
  | .wrToken | .wrData | .wrCrc0 | .wrCrc1 | .wrResp | .wrBusy | .wrTrail | .wrDesel | .dDesel .wrDesel => some 0
  | _ => none

/-- The labels inside `SendCommand`. -/
def Phase.inCommand : Phase → Bool
  | .cDesel | .cResync | .cSel | .cB0 | .cB1 | .cB2 | .cB3 | .cB4 | .cB5 | .cPoll | .cToDesel | .cToIdle => true
  | _ => false

/-- The labels at and inside `ReadTrail`. -/
def Phase.inTrail : Phase → Bool
  | .iR7 | .iOcr | .t0 | .t1 | .t2 | .t3 => true
  | _ => false

/-- The labels of INITIALIZE and of the procedures only it calls. -/
def Phase.ofInit : Phase → Bool
  | .iSpeed | .iCshigh | .iPwrup | .iCmd0 | .iCmd8 | .iR7 | .iCmd55 | .iAcmd41 | .iCmd1 | .iCmd58 | .iOcr => true
  | .iDone | .iSpeedUp | .iFail | .t0 | .t1 | .t2 | .t3 => true
  | .dDesel .initDone | .dDesel .initFail | .dIdle .initDone | .dIdle .initFail => true
  | _ => false

/-- The labels of READ and WRITE. -/
def Phase.ofTransfer : Phase → Bool
  | .rdCmd | .rdToken | .rdData | .rdCrc0 | .rdCrc1 | .rdDesel => true
  | .wrCmd | .wrToken | .wrData | .wrCrc0 | .wrCrc1 | .wrResp | .wrBusy | .wrTrail | .wrDesel | .xFail => true
  | .dDesel .rdDesel | .dDesel .wrDesel | .dDesel .xFail | .dIdle .rdDesel | .dIdle .wrDesel | .dIdle .xFail => true
  | _ => false

/-- The indices of the two data commands. -/
def transferIndex (i : BitVec 6) : Bool := i == idxReadBlock || i == idxWriteBlock

/-- INITIALIZE is in progress. -/
def inInit (s : State) : Bool := s.phase.ofInit || (s.phase.inCommand && !transferIndex s.idx)

/-- READ or WRITE is in progress. -/
def inTransfer (s : State) : Bool := s.phase.ofTransfer || (s.phase.inCommand && transferIndex s.idx)

/-- An iteration of the application-command loop is in progress. -/
def inRound (s : State) : Bool :=
  s.phase == .iCmd55 || s.phase == .iAcmd41 || (s.phase.inCommand && (s.idx == idxApp || s.idx == idxSdOpCond))

/-! ### The invariant -/

/-- What holds of the engine's state at every label. -/
structure Inv (s : State) : Prop where
  /-- the constraints of R7 -/
  cfg : s.cfg.valid = true
  /-- "`STATUS` is always `0x01` or `0x00`" (R21) -/
  status : s.status = 0x00 ∨ s.status = 0x01
  /-- READY only after an INITIALIZE that left the bus at `F_FAST` (R27) -/
  speed : notInitialized s = false → s.speed = some s.cfg.fFast
  /-- CS is the level the label relies on; in particular "`CS = 1` whenever `PHASE = IDLE`" (R26) -/
  line : ∀ v, s.phase.line = some v → s.cs = v
  /-- only the eight commands of R110 are sent -/
  command : s.phase.inCommand = true → commandIndices.contains s.idx = true
  /-- RESP is `0xFF` before the first poll and a filler byte while polls go on (R30, R145, R146) -/
  filler : s.phase.inCommand = true → isFiller s.resp = true
  /-- only CMD8 and CMD58 have trailing bytes (R96) -/
  trail : s.phase.inTrail = true → s.idx = idxIfCond ∨ s.idx = idxReadOcr
  /-- NOINIT is 1 throughout INITIALIZE (R172) -/
  init : inInit s = true → notInitialized s = true
  /-- transfers run only on a READY device, for the valid unit (R23), below COUNT (R30) -/
  transfer : inTransfer s = true → notInitialized s = false ∧ s.unit = unitValid ∧ s.sidx < s.count.toNat
  /-- BCNT is 0 to 512 (R30), below 512 while a payload byte is due -/
  bytes : s.bcnt ≤ sectorBytes ∧ (s.phase = .rdData ∨ s.phase = .wrData → s.bcnt < sectorBytes)
  /-- ICNT is at most `N_ACMD` (R30), below it inside an iteration -/
  rounds : s.icnt ≤ s.cfg.nAcmd ∧ (inRound s = true → s.icnt < s.cfg.nAcmd)
  /-- each wait has polls left at its label (R145, R173, R203, R212) -/
  polls : (s.phase = .cPoll → s.pcnt < pollBound s.cfg s.idx) ∧ (s.phase = .iPwrup → s.pcnt < s.cfg.nPwrup) ∧
    (s.phase = .rdToken → s.pcnt < s.cfg.nToken) ∧ (s.phase = .wrBusy → s.pcnt < s.cfg.nBusy)
  /-- the codes, flags and values that occur (R105, R106, R107, U2) -/
  response : (s.code = resOk ∨ s.code = resError ∨ s.code = resNotRdy ∨ s.code = resParErr) ∧
    (s.flags = 0x00 ∨ s.flags = 0x01) ∧ (s.value = 0 ∨ s.value = 1 ∨ s.value = 512)
  /-- the buffer, and every buffer the host will hand over, is in canonical form (log 13) -/
  memory : s.buf.wf = true ∧ ∀ c ∈ s.host, ∀ m, c.buf = some m → m.wf = true

/-! ### The bus discipline (R303 (b), (c); R141; 90_conflicts.md C1) -/

/-- What the event log says of the select line. -/
inductive LineState
  /-- driven high by the last `SEL(1)`, no idle byte yet -/
  | fresh
  /-- high, `n` idle bytes since the last `SEL(1)` -/
  | rested (n : Nat)
  /-- low, `k` frame bytes sent since `SEL(0)` -/
  | sending (k : Nat)
  /-- low, the frame is complete -/
  | talking
  deriving DecidableEq, Repr

/-- The first frame bytes of the eight commands (30_encoding.md R110). -/
def commandBytes : List Byte := [0x40, 0x48, 0x77, 0x69, 0x41, 0x7A, 0x51, 0x58]

/-- What one more event makes of it; `none` when the event breaks the discipline: a `SEL(1)` must be followed by an idle byte,
a `SEL(0)` needs exactly one idle byte since the last `SEL(1)` and is followed by the six bytes of a command frame, the speed
changes only while the line is high. -/
def lineNext : Event → LineState → Option LineState
  | .memRead _ _, l => some l
  | .memWrite _ _, l => some l
  | .spd _, .rested n => some (.rested n)
  | .spd _, _ => none
  | .sel v, .rested n => if v = 1 then some .fresh else if n = 1 then some (.sending 0) else none
  | .sel v, .talking => if v = 1 then some .fresh else none
  | .sel _, _ => none
  | .x o _, .fresh => if o = idleByte then some (.rested 1) else none
  | .x o _, .rested n => if o = idleByte then some (.rested (n + 1)) else none
  | .x o _, .sending k =>
    if k = 0 && !commandBytes.contains o then none else if k = 5 then some .talking else some (.sending (k + 1))
  | .x _ _, .talking => some .talking

/-- The line after a log (newest first), from reset; `none` when the discipline was broken. -/
def lineState (log : List Event) : Option LineState :=
  log.foldr (fun e l => l.bind (lineNext e)) (some (.rested 0))

end Sys2Proof.Machine
end

