-- ==== Sys2Proof/Safety/Card.lean ====
section
/-! DEFINITION. The card's side, as claims speak of it: the bytes a card answers with while an operation runs, and the events
the rules then require (00_scope.md R13; 95_test_vectors.md part 0). Lists are in order of time. -/

namespace Sys2Proof.Machine

/-- One exchange for each byte received, the engine sending the idle byte (R142). -/
def listen (ins : List Byte) : List Event := ins.map (Event.x idleByte)

/-- `Deselect()` with the byte received in its idle exchange (R141). -/
def deselectEvents (b : Byte) : List Event := [.sel 1, .x idleByte b]

/-! ### One `SendCommand` (40_command_engine.md R143 to R147) -/

/-- What the card answers during one `SendCommand`: seven bytes the engine ignores (the resync byte and the six frame bytes),
then either fillers and a response, or only fillers up to the bound and the byte of the timeout's idle exchange. -/
inductive Reply
  | answered (ignored fillers : List Byte) (r : Byte)
  | silent (ignored fillers : List Byte) (last : Byte)
  deriving DecidableEq, Repr

/-- The reply fits a poll bound. -/
def Reply.good (bound : Nat) : Reply → Bool
  | .answered ign fil r => ign.length == 7 && fil.all isFiller && decide (fil.length < bound) && !isFiller r
  | .silent ign fil _ => ign.length == 7 && fil.all isFiller && fil.length == bound

/-- All bytes of the reply. -/
def Reply.bytes : Reply → List Byte
  | .answered ign fil r => ign ++ fil ++ [r]
  | .silent ign fil last => ign ++ fil ++ [last]

/-- The bytes received by response polls. -/
def Reply.polls : Reply → List Byte
  | .answered _ fil r => fil ++ [r]
  | .silent _ fil _ => fil

/-- The byte `SendCommand` returns: the response, or "the last polled (high-bit-set) byte", `0xFF` when no poll was made (R146). -/
def Reply.returned : Reply → Byte
  | .answered _ _ r => r
  | .silent _ fil _ => fil.getLastD 0xFF

/-- CS on return (R147). -/
def Reply.line : Reply → BitVec 1
  | .answered _ _ _ => 0
  | .silent _ _ _ => 1

/-- The bytes the engine ignores. -/
def Reply.ignored : Reply → List Byte
  | .answered ign _ _ => ign
  | .silent ign _ _ => ign

/-- The events of the timeout path (R146). -/
def Reply.ending : Reply → List Event
  | .answered _ _ _ => []
  | .silent _ _ last => deselectEvents last

/-- The bus trace of `SendCommand` for this frame (R143). -/
def Reply.trace (f : Frame) (r : Reply) : List Event :=
  [.sel 1] ++ listen (r.ignored.take 1) ++ [.sel 0] ++ List.zipWith Event.x f.bytes (r.ignored.drop 1) ++ listen r.polls ++ r.ending

/-- The state `SendCommand` leaves: everything it writes, and nothing else. -/
def afterReply (index : BitVec 6) (arg : Word) (r : Reply) (rest : List Byte) (s : State) : State :=
  { s with idx := index, arg := arg, crc := crcFor index, resp := r.returned, pcnt := r.polls.length, cs := r.line,
           card := rest, xcount := s.xcount + r.bytes.length,
           log := (r.trace (commandFrame index arg)).reverse ++ s.log }

/-- The state four trailing bytes leave (R150). -/
def afterTrail (a b c d : Byte) (rest : List Byte) (s : State) : State :=
  { s with trail0 := a, trail1 := b, trail2 := c, trail3 := d, card := rest, xcount := s.xcount + 4,
           log := (listen [a, b, c, d]).reverse ++ s.log }

/-! ### One sector of READ (42_block_transfer.md R202 to R206) -/

/-- The card's bytes for a sector that is read. -/
structure ReadAnswer where
  cmd : Reply
  fillers : List Byte
  payload : List Byte
  crc : List Byte
  last : Byte
  deriving DecidableEq, Repr

def ReadAnswer.good (c : Config) (a : ReadAnswer) : Bool :=
  a.cmd.good c.nResp && a.cmd.returned == respReady && a.fillers.all (· == tokenFiller) && decide (a.fillers.length < c.nToken) &&
    a.payload.length == sectorBytes && a.crc.length == 2

def ReadAnswer.bytes (a : ReadAnswer) : List Byte :=
  a.cmd.bytes ++ a.fillers ++ [tokenStart] ++ a.payload ++ a.crc ++ [a.last]

/-- The payload exchanges of the `i`-th sector from byte `j` on, each followed by the store of the byte (R204). -/
def storeEvents (i : Nat) : Nat → List Byte → List Event
  | _, [] => []
  | j, v :: vs => .x idleByte v :: .memWrite (bufOffset i j) v :: storeEvents i (j + 1) vs

/-- The frame of a data command for the `i`-th sector (R65, R202, R208). -/
def sectorFrame (index : BitVec 6) (c : Config) (sector : Word) (i : Nat) : Frame :=
  commandFrame index (blockArg c.addrMode (sectorIndex sector i))

/-- The events of the `i`-th sector of a READ. -/
def ReadAnswer.trace (c : Config) (sector : Word) (i : Nat) (a : ReadAnswer) : List Event :=
  a.cmd.trace (sectorFrame idxReadBlock c sector i) ++ listen a.fillers ++ listen [tokenStart] ++ storeEvents i 0 a.payload ++
    listen a.crc ++ deselectEvents a.last

/-- The events of the sectors from the `i`-th on. -/
def readTrace (c : Config) (sector : Word) : Nat → List ReadAnswer → List Event
  | _, [] => []
  | i, a :: as => a.trace c sector i ++ readTrace c sector (i + 1) as

def readBytes (as : List ReadAnswer) : List Byte := as.flatMap ReadAnswer.bytes

/-- The card's bytes for a sector whose read fails before its first data byte (R202, R203). -/
inductive ReadFailure
  /-- a response other than `0x00`, or no response -/
  | refused (cmd : Reply)
  /-- a token-wait byte that is neither `0xFE` nor `0xFF` -/
  | badToken (cmd : Reply) (fillers : List Byte) (t : Byte)
  /-- no token within `N_TOKEN` polls -/
  | noToken (cmd : Reply) (fillers : List Byte)
  deriving DecidableEq, Repr

def ReadFailure.good (c : Config) : ReadFailure → Bool
  | .refused cmd => cmd.good c.nResp && cmd.returned != respReady
  | .badToken cmd fil t => cmd.good c.nResp && cmd.returned == respReady && fil.all (· == tokenFiller) &&
      decide (fil.length < c.nToken) && t != tokenStart && t != tokenFiller
  | .noToken cmd fil => cmd.good c.nResp && cmd.returned == respReady && fil.all (· == tokenFiller) && fil.length == c.nToken

def ReadFailure.bytes : ReadFailure → List Byte
  | .refused cmd => cmd.bytes
  | .badToken cmd fil t => cmd.bytes ++ fil ++ [t]
  | .noToken cmd fil => cmd.bytes ++ fil

def ReadFailure.trace (f : Frame) : ReadFailure → List Event
  | .refused cmd => cmd.trace f
  | .badToken cmd fil t => cmd.trace f ++ listen fil ++ listen [t]
  | .noToken cmd fil => cmd.trace f ++ listen fil

/-! ### One sector of WRITE (R208 to R214) -/

/-- The card's bytes for a sector up to the data response: the command's, one for the token, 512 for the payload, two for the
dummy CRC, and the data response. -/
structure BlockAnswer where
  cmd : Reply
  token : Byte
  data : List Byte
  crc : List Byte
  response : Byte
  deriving DecidableEq, Repr

def BlockAnswer.good (c : Config) (a : BlockAnswer) : Bool :=
  a.cmd.good c.nResp && a.cmd.returned == respReady && a.data.length == sectorBytes && a.crc.length == 2

def BlockAnswer.bytes (a : BlockAnswer) : List Byte := a.cmd.bytes ++ [a.token] ++ a.data ++ a.crc ++ [a.response]

/-- The payload exchanges of the `i`-th sector from byte `j` on: each buffer byte read, then sent (R209). -/
def loadEvents (m : Memory) (i : Nat) : Nat → List Byte → List Event
  | _, [] => []
  | j, b :: bs => .memRead (bufOffset i j) (m.read (bufOffset i j)) :: .x (m.read (bufOffset i j)) b :: loadEvents m i (j + 1) bs

def BlockAnswer.trace (f : Frame) (m : Memory) (i : Nat) (a : BlockAnswer) : List Event :=
  a.cmd.trace f ++ [.x tokenStart a.token] ++ loadEvents m i 0 a.data ++ a.crc.map (Event.x crcDataDummy) ++ listen [a.response]

/-- The card's bytes for a sector that is written: the block accepted, busy bytes, not-busy, the trailing idle byte and the
deselect's idle byte. -/
structure WriteAnswer where
  block : BlockAnswer
  busy : List Byte
  trail : Byte
  last : Byte
  deriving DecidableEq, Repr

def WriteAnswer.good (c : Config) (a : WriteAnswer) : Bool :=
  a.block.good c && dataAccepted a.block.response && a.busy.all (· != notBusy) && decide (a.busy.length < c.nBusy)

def WriteAnswer.bytes (a : WriteAnswer) : List Byte := a.block.bytes ++ a.busy ++ [notBusy, a.trail, a.last]

def WriteAnswer.trace (c : Config) (sector : Word) (m : Memory) (i : Nat) (a : WriteAnswer) : List Event :=
  a.block.trace (sectorFrame idxWriteBlock c sector i) m i ++ listen a.busy ++ listen [notBusy, a.trail] ++ deselectEvents a.last

/-- The events of the sectors from the `i`-th on. -/
def writeTrace (c : Config) (sector : Word) (m : Memory) : Nat → List WriteAnswer → List Event
  | _, [] => []
  | i, a :: as => a.trace c sector m i ++ writeTrace c sector m (i + 1) as

def writeBytes (as : List WriteAnswer) : List Byte := as.flatMap WriteAnswer.bytes

/-- The card's bytes for a sector whose write fails (R208, R211, R212). -/
inductive WriteFailure
  /-- a response other than `0x00`, or no response -/
  | refused (cmd : Reply)
  /-- a data response whose low five bits are not `0x05` -/
  | rejected (block : BlockAnswer)
  /-- no `0xFF` within `N_BUSY` polls -/
  | stillBusy (block : BlockAnswer) (busy : List Byte)
  deriving DecidableEq, Repr

def WriteFailure.good (c : Config) : WriteFailure → Bool
  | .refused cmd => cmd.good c.nResp && cmd.returned != respReady
  | .rejected b => b.good c && !dataAccepted b.response
  | .stillBusy b busy => b.good c && dataAccepted b.response && busy.all (· != notBusy) && busy.length == c.nBusy

def WriteFailure.bytes : WriteFailure → List Byte
  | .refused cmd => cmd.bytes
  | .rejected b => b.bytes
  | .stillBusy b busy => b.bytes ++ busy

def WriteFailure.trace (f : Frame) (m : Memory) (i : Nat) : WriteFailure → List Event
  | .refused cmd => cmd.trace f
  | .rejected b => b.trace f m i
  | .stillBusy b busy => b.trace f m i ++ listen busy

/-! ### What a card stores (R217)

Read from the events alone, as a card simulator does: nothing here mentions the engine's buffer. -/

/-- The bytes the engine sends from here until the select line next changes. -/
def bytesUntilSel : List Event → List Byte
  | [] => []
  | .sel _ :: _ => []
  | .x out _ :: es => out :: bytesUntilSel es
  | _ :: es => bytesUntilSel es

/-- For each time the line is driven low, the bytes the card is sent while it is selected. -/
def selections : List Event → List (List Byte)
  | [] => []
  | .sel v :: es => if v = 0 then bytesUntilSel es :: selections es else selections es
  | _ :: es => selections es

/-- The argument and the 512 payload bytes of one selection that carries CMD24 and a data block: the frame, idle bytes, the start
token, the payload (30_encoding.md R91, R98). -/
def blockOf : List Byte → Option (Word × List Byte)
  | b0 :: b1 :: b2 :: b3 :: b4 :: _ :: rest =>
    if b0 = 0x58 then
      match rest.dropWhile (· == idleByte) with
      | token :: data => if token = tokenStart then some (wordOfBytes b1 b2 b3 b4, data.take sectorBytes) else none
      | [] => none
    else none
  | _ => none

/-- The data blocks a card is sent, in order, each with the argument of its CMD24. -/
def blocksSent (es : List Event) : List (Word × List Byte) := (selections es).filterMap blockOf

/-! ### INITIALIZE (41_initialization.md R173 to R182) -/

/-- The card's bytes for steps 1 to 3 that step 2 passes: power-up, CMD0, CMD8 and its trailing bytes. -/
structure Opening where
  power : List Byte
  cmd0 : Reply
  cmd8 : Reply
  trail : List Byte
  deriving DecidableEq, Repr

def Opening.good (c : Config) (o : Opening) : Bool :=
  o.power.length == c.nPwrup && o.cmd0.good c.nRespReset && o.cmd0.returned == respIdle && o.cmd8.good c.nResp &&
    o.trail.length == (if o.cmd8.returned = respIdle then 4 else 0)

def Opening.bytes (o : Opening) : List Byte := o.power ++ o.cmd0.bytes ++ o.cmd8.bytes ++ o.trail

/-- The bus trace of step 1 (R173). -/
def powerTrace (c : Config) (power : List Byte) : List Event := [.spd c.fSlow, .sel 1] ++ listen power

def Opening.trace (c : Config) (o : Opening) : List Event :=
  powerTrace c o.power ++ o.cmd0.trace (commandFrame idxGoIdle 0) ++ o.cmd8.trace (commandFrame idxIfCond argIfCond) ++ listen o.trail

/-- The class step 3 gives the card (R175). -/
def Opening.cardType (o : Opening) : CardType :=
  if o.cmd8.returned = respIdle ∧ o.trail[2]? = some 0x01 ∧ o.trail[3]? = some 0xAA then .v2 else .v1Mmc

/-- The replies of one iteration of step 4: to CMD55 and to ACMD41. -/
structure Round where
  app : Reply
  op : Reply
  deriving DecidableEq, Repr

/-- CMD55 was not rejected (R177). -/
def Round.begun (c : Config) (r : Round) : Bool :=
  r.app.good c.nResp && decide (r.app.returned ≤ respIdle) && r.op.good c.nResp

def Round.bytes (r : Round) : List Byte := r.app.bytes ++ r.op.bytes

/-- The frames of an iteration for a card of this class (R176, R178). -/
def Round.trace (k : CardType) (r : Round) : List Event :=
  r.app.trace (commandFrame idxApp 0) ++ r.op.trace (commandFrame idxSdOpCond (acmd41Arg (k == .v2)))

/-- Iterations in which ACMD41 does not answer `0x00`. -/
def waitingRounds (c : Config) (rs : List Round) : Bool := rs.all (fun r => r.begun c && r.op.returned != respReady)

def roundsBytes (rs : List Round) : List Byte := rs.flatMap Round.bytes
def roundsTrace (k : CardType) (rs : List Round) : List Event := rs.flatMap (Round.trace k)

/-- The card's bytes for step 6: the reply to CMD58 and the OCR bytes (R180). -/
structure OcrAnswer where
  cmd : Reply
  ocr : List Byte
  deriving DecidableEq, Repr

def OcrAnswer.good (c : Config) (a : OcrAnswer) : Bool :=
  a.cmd.good c.nResp && a.ocr.length == (if a.cmd.returned = respReady then 4 else 0)

def OcrAnswer.bytes (a : OcrAnswer) : List Byte := a.cmd.bytes ++ a.ocr
def OcrAnswer.trace (a : OcrAnswer) : List Event := a.cmd.trace (commandFrame idxReadOcr 0) ++ listen a.ocr

/-- The bit step 6 latches. -/
def OcrAnswer.capacity (a : OcrAnswer) : BitVec 1 :=
  match a.ocr with
  | b :: _ => capacityBit b
  | [] => 0

end Sys2Proof.Machine
end

