-- ==== Sys2Proof/Certificates/Slice0/Obligations.lean ====
section
/-! DEFINITION. The statements for the provers. Each docstring names the rule of spec/ it formalises; "derived" statements say
what of them is the model's own. -/

open Sys2Proof Sys2Proof.Machine

/-! ### Reset and the step -/

/-- R37: the reset value of every element that has one; the engine has made no event. -/
def Obligations.ResetLeavesNotInitialized : Prop :=
  State.reset.status = 0x01 ∧ State.reset.cs = 1 ∧ State.reset.speed = none ∧ State.reset.ctype = CardType.unknown ∧
    State.reset.ctype.bits = 0 ∧ State.reset.ccs = 0 ∧ State.reset.phase = Phase.idle ∧ State.reset.log = []

/-- Derived: the invariant holds at reset (its clauses on the configuration and on registers R37 leaves unspecified hold of the
values log 1, 9, 10, 11 choose). -/
def Obligations.ResetMeetsInvariant : Prop := Inv State.reset

/-- Derived (R28): in IDLE a step samples the request the host places and runs the operation it decodes to. -/
def Obligations.StepRunsDecodedRequest : Prop :=
  ∀ (s : State) (c : HostCall) (rest : List HostCall) (i : Instr),
    s.phase = Phase.idle → s.host = c :: rest → decodeRequest c.req = .ok i → step s = exec i (sample c rest s)

/-- Derived (R91): at C_DESEL a step runs the wire command the Command Descriptor decodes to. -/
def Obligations.StepRunsDecodedFrame : Prop :=
  ∀ (s : State) (i : Instr),
    s.phase = Phase.cDesel → decodeFrame ⟨s.idx, s.arg, s.crc⟩ = .ok i → step s = exec i s

/-- Derived (R38): with no request in IDLE nothing changes. -/
def Obligations.IdleEngineWaits : Prop :=
  ∀ s : State, s.phase = Phase.idle → s.host = [] → step s = .next s

/-- Derived (R300; the host's list is the model's, log 4): outside IDLE a step neither takes a request nor changes the request registers. -/
def Obligations.RequestsAcceptedOnlyInIdle : Prop :=
  ∀ s t : State, s.phase ≠ Phase.idle → step s = .next t →
    t.host = s.host ∧ t.op = s.op ∧ t.unit = s.unit ∧ t.query = s.query ∧ t.sector = s.sector ∧ t.count = s.count

/-- Derived (R7, R20): the configuration is fixed for the life of the model. -/
def Obligations.StepKeepsConfiguration : Prop :=
  ∀ s t : State, step s = .next t → t.cfg = s.cfg

/-- Derived (R15, R310): every instruction answers a next state from every state; no operation stops the machine. -/
def Obligations.EveryInstructionCompletes : Prop :=
  ∀ (i : Instr) (s : State), ∃ t, exec i s = .next t

/-- R111: a reserved OP ends at once with ParameterError; nothing but the response registers (and the sampled request) changes. -/
def Obligations.ReservedOpIsParameterError : Prop :=
  ∀ (s : State) (c : HostCall) (rest : List HostCall),
    s.phase = Phase.idle → s.host = c :: rest → (c.req.op = 5 ∨ c.req.op = 6 ∨ c.req.op = 7) →
    step s = .next { sample c rest s with
      code := 4, flags := if c.req.unit = unitValid then statusRead s else 0x01, value := 0, phase := Phase.idle }

/-- R231, R235: the tests of an IOCTL request in their order: bad unit, unknown query, NOT-INITIALIZED, then the query's value; nothing
but the response registers (and the sampled request) changes. -/
def Obligations.IoctlTestsInOrder : Prop :=
  ∀ (s : State) (c : HostCall) (rest : List HostCall),
    s.phase = Phase.idle → s.host = c :: rest → c.req.op = 4 →
    step s = .next (
      let t : State := { sample c rest s with phase := Phase.idle }
      if c.req.unit ≠ 0 then { t with code := 4, flags := 0x01, value := 0 }
      else if c.req.query ≠ 0 ∧ c.req.query ≠ 2 ∧ c.req.query ≠ 3 then { t with code := 4, flags := s.status &&& 0x01, value := 0 }
      else if s.status.getLsbD 0 = true then { t with code := 3, flags := 0x01, value := 0 }
      else { t with code := 0, flags := 0x00, value := if c.req.query = 0 then 0 else if c.req.query = 2 then 512 else 1 })

/-! ### Invariants -/

/-- Derived: every step keeps the invariant, from every state that meets it (R21, R23, R26, R27, R30, R39, R105, R145). -/
def Obligations.StepKeepsInvariant : Prop :=
  ∀ s t : State, Inv s → step s = .next t → Inv t

/-- Derived: a state that meets the invariant never stops (R15: "there is no trap, no hang"). -/
def Obligations.InvariantNeverStops : Prop :=
  ∀ s : State, Inv s → ∃ t, step s = .next t

/-- Derived: the micro-sequencer keeps the invariant too, and never stops in it (R28). -/
def Obligations.TickKeepsInvariant : Prop :=
  ∀ s : State, Inv s → ∃ t, tick s = .next t ∧ Inv t

/-- Derived (R39): an operation that starts with the line high ends in IDLE with the line high. -/
def Obligations.OperationsEndDeselected : Prop :=
  ∀ (s : State) (c : HostCall) (rest : List HostCall) (t : State),
    s.phase = Phase.idle → s.host = c :: rest → s.cs = 1 → step s = .next t → t.phase = Phase.idle ∧ t.cs = 1

/-- Derived (R303 (b), (c) with 90_conflicts.md C1): no operation breaks the bus discipline of `lineNext`, and each ends with the line high
and at least one idle byte after it. -/
def Obligations.OperationsKeepBusDiscipline : Prop :=
  ∀ (s : State) (c : HostCall) (rest : List HostCall) (t : State) (n : Nat),
    s.cfg.valid = true → s.phase = Phase.idle → s.host = c :: rest → lineState s.log = some (.rested n) → step s = .next t →
    ∃ m, lineState t.log = some (.rested m)

/-! ### The two grains agree -/

/-- Derived (R28): "A model may instead give each operation as one big step ...; the two must agree on every trace": the sequencer, one
primitive call at a time, reaches exactly the state of the big step. -/
def Obligations.SequencerReachesBigStep : Prop :=
  ∀ (s : State) (c : HostCall) (rest : List HostCall),
    s.phase = Phase.idle → s.host = c :: rest → ∃ n, 0 < n ∧ ticks n s = step s

/-- Derived (R28), for a wire command: from C_DESEL, with RESP and PCNT as the entry of `SendCommand` leaves them, the sequencer reaches exactly
the state of the command's meaning. -/
def Obligations.SequencerReachesCommand : Prop :=
  ∀ (s : State) (i : Instr),
    s.phase = Phase.cDesel → decodeFrame (descriptor s) = .ok i → s.resp = 0xFF → s.pcnt = 0 →
    ∃ n, 0 < n ∧ ticks n s = exec i s

/-! ### Encodings -/

/-- Derived (R91, R102): decoding the bytes of any instruction gives it back, with every operand at every value. -/
def Obligations.DecodeInvertsEncode : Prop := ∀ i : Instr, decode (encode i) = .ok i

/-- Derived: a decoded frame is one the engine can send (R94, R108, R110). -/
def Obligations.DecodedFrameIsLegal : Prop :=
  ∀ (f : Frame) (i : Instr), decodeFrame f = .ok i ↔ f.wf = true ∧ i.encoded = .frame f

/-- Derived (R91 to R94, R110, R102): four frames and one 83-bit request word written out from the spec's tables decode to the instruction
they stand for; so does, by the last clause, a request word at bit count 88. The bit count 88 (the 83 bits in 11 whole bytes, five zero
bits above OP) is no format of the spec but the model's DESIGN CHOICE of log 14. -/
def Obligations.SpecWordsDecode : Prop :=
  decode [0x40, 0x00, 0x00, 0x00, 0x00, 0x95] = .ok .cmd0 ∧
  decode [0x48, 0x00, 0x00, 0x01, 0xAA, 0x87] = .ok .cmd8 ∧
  decode [0x69, 0x40, 0x00, 0x00, 0x00, 0x01] = .ok (.acmd41 true) ∧
  decode [0x51, 0x00, 0x01, 0x23, 0x45, 0x01] = .ok (.cmd17 0x00012345) ∧
  decodeTableWord 83 0x20000FFFFFFFF00000002 = some (.hostRead 0 0xFFFFFFFF 2) ∧
  decodeTableWord 88 0x401020000000000000000 = some (.ioctlGetSectorSize 1)

/-- Derived: the rows of opcode_table.json with format FRAME. A 48-bit word decodes exactly when it matches a row, to that row. -/
def Obligations.FrameRowsDecodeByMask : Prop :=
  ∀ w : BitVec 48,
    decodeTableWord 48 w.toNat =
      if w = 0x400000000095#48 then some .cmd0
      else if w = 0x48000001AA87#48 then some .cmd8
      else if w = 0x770000000001#48 then some .cmd55
      else if w &&& 0xFFBFFFFFFFFF#48 = 0x690000000001#48 then some (.acmd41 (w.getLsbD 38))
      else if w = 0x410000000001#48 then some .cmd1
      else if w = 0x7A0000000001#48 then some .cmd58
      else if w &&& 0xFF00000000FF#48 = 0x510000000001#48 then some (.cmd17 (w.extractLsb' 8 32))
      else if w &&& 0xFF00000000FF#48 = 0x580000000001#48 then some (.cmd24 (w.extractLsb' 8 32))
      else none

/-- Derived: the rows of opcode_table.json with format HOSTREQ, in the same way, over the 83-bit word `REQ`. -/
def Obligations.RequestRowsDecodeByMask : Prop :=
  ∀ w : BitVec 83,
    decodeTableWord 83 w.toNat =
      if w.extractLsb' 80 3 = 0#3 then some (.hostInitialize (w.extractLsb' 72 8))
      else if w.extractLsb' 80 3 = 1#3 then some (.hostStatus (w.extractLsb' 72 8))
      else if w.extractLsb' 80 3 = 2#3 then some (.hostRead (w.extractLsb' 72 8) (w.extractLsb' 32 32) (w.extractLsb' 0 32))
      else if w.extractLsb' 80 3 = 3#3 then some (.hostWrite (w.extractLsb' 72 8) (w.extractLsb' 32 32) (w.extractLsb' 0 32))
      else if w.extractLsb' 80 3 = 4#3 ∧ w.extractLsb' 64 8 = 0#8 then some (.ioctlCtrlSync (w.extractLsb' 72 8))
      else if w.extractLsb' 80 3 = 4#3 ∧ w.extractLsb' 64 8 = 2#8 then some (.ioctlGetSectorSize (w.extractLsb' 72 8))
      else if w.extractLsb' 80 3 = 4#3 ∧ w.extractLsb' 64 8 = 3#8 then some (.ioctlGetBlockSize (w.extractLsb' 72 8))
      else none

/-- R64: the two equations of `BlockArg`; in BYTE mode it is `s[22:0] ++ 0b000000000`. The reduction modulo `2^32` is the spec's own choice
(92_eei_decisions.md D25), not the source's. -/
def Obligations.BlockArgumentByMode : Prop :=
  ∀ s : Word, blockArg .block s = s ∧ (blockArg .byte s).toNat = s.toNat * 512 % 2 ^ 32 ∧
    blockArg .byte s = s.extractLsb' 0 23 ++ 0#9

/-! ### The Command Protocol Engine -/

/-- R143, R146: `SendCommand` for every index, argument, bound and reply of the card: the returned byte, CS (R147), the exact trace, and
nothing else written. A timeout byte has bit 7 set, so it is neither `0x00` nor `0x01` and is greater than `0x01`. -/
def Obligations.SendCommandFollowsReply : Prop :=
  ∀ (index : BitVec 6) (arg : Word) (bound : Nat) (reply : Reply) (rest : List Byte) (s : State),
    reply.good bound = true → s.card = reply.bytes ++ rest →
    sendCommand index arg bound s = afterReply index arg reply rest s ∧
      (reply.line = 0 ↔ isFiller reply.returned = false) ∧
      (reply.line = 1 → reply.returned ≠ 0x00 ∧ reply.returned ≠ 0x01 ∧ 0x01 < reply.returned)

/-- Derived (R145, R146): whatever a card answers is a reply of one of the two kinds. -/
def Obligations.EveryCardReplies : Prop :=
  ∀ (bound : Nat) (bytes : List Byte), 8 + bound ≤ bytes.length →
    ∃ reply rest, Reply.good bound reply = true ∧ bytes = reply.bytes ++ rest

/-- Derived (R151): a `SendCommand` makes at least 8 and at most `8 + bound` exchanges, for every card. -/
def Obligations.SendCommandExchangesBounded : Prop :=
  ∀ (index : BitVec 6) (arg : Word) (bound : Nat) (s : State),
    s.xcount + 8 ≤ (sendCommand index arg bound s).xcount ∧ (sendCommand index arg bound s).xcount ≤ s.xcount + 8 + bound

/-- Derived (R174): CMD0 is polled with `N_RESP_RESET`; only the exact byte `0x01` passes. -/
def Obligations.Cmd0PassesOnlyOnIdleCode : Prop :=
  ∀ (reply : Reply) (rest : List Byte) (s : State),
    reply.good s.cfg.nRespReset = true → s.card = reply.bytes ++ rest →
    exec .cmd0 s = .next { afterReply 0 0x00000000 reply rest s with
      phase := if reply.returned = 0x01 then Phase.iCmd8 else Phase.iFail }

/-- Derived (R175): CMD8. Without the idle code no trailing byte is read and the class is legacy; with it the class is V2 exactly when TRAIL2 and
TRAIL3 echo `0x01` and `0xAA`. The loop of step 4 begins, or fails at once when `N_ACMD` is 0 (R176). -/
def Obligations.Cmd8ClassifiesByEcho : Prop :=
  (∀ (reply : Reply) (rest : List Byte) (s : State),
    reply.good s.cfg.nResp = true → s.card = reply.bytes ++ rest → reply.returned ≠ 0x01 →
    exec .cmd8 s = .next { afterReply 8 0x000001AA reply rest s with
      ctype := CardType.v1Mmc, icnt := 0, phase := if 0 < s.cfg.nAcmd then Phase.iCmd55 else Phase.iFail }) ∧
  (∀ (reply : Reply) (a b c d : Byte) (rest : List Byte) (s : State),
    reply.good s.cfg.nResp = true → s.card = reply.bytes ++ a :: b :: c :: d :: rest → reply.returned = 0x01 →
    exec .cmd8 s = .next { afterTrail a b c d rest (afterReply 8 0x000001AA reply (a :: b :: c :: d :: rest) s) with
      ctype := if c = 0x01 ∧ d = 0xAA then CardType.v2 else CardType.v1Mmc, icnt := 0,
      phase := if 0 < s.cfg.nAcmd then Phase.iCmd55 else Phase.iFail })

/-- Derived (R177): CMD55; a response greater than `0x01` aborts to step 5. -/
def Obligations.Cmd55AbortsAboveIdleCode : Prop :=
  ∀ (reply : Reply) (rest : List Byte) (s : State),
    reply.good s.cfg.nResp = true → s.card = reply.bytes ++ rest →
    exec .cmd55 s = .next { afterReply 55 0x00000000 reply rest s with
      phase := if 1 < reply.returned.toNat then Phase.iCmd1 else Phase.iAcmd41 }

/-- Derived (R178, R176): ACMD41; exactly `0x00` ends the loop, to CMD58 for a V2 card and else to step 7; every other response counts one
iteration against `N_ACMD`. -/
def Obligations.Acmd41EndsLoopOnlyOnReady : Prop :=
  ∀ (hcs : Bool) (reply : Reply) (rest : List Byte) (s : State),
    reply.good s.cfg.nResp = true → s.card = reply.bytes ++ rest →
    exec (.acmd41 hcs) s = .next (
      let t := afterReply 41 (if hcs then 0x40000000 else 0x00000000) reply rest s
      if reply.returned = 0x00 then { t with phase := if s.ctype = CardType.v2 then Phase.iCmd58 else Phase.iDone }
      else { t with icnt := s.icnt + 1, phase := if s.icnt + 1 < s.cfg.nAcmd then Phase.iCmd55 else Phase.iFail })

/-- Derived (R179): CMD1; `0x00` is success, everything else failure. -/
def Obligations.Cmd1SucceedsOnlyOnReady : Prop :=
  ∀ (reply : Reply) (rest : List Byte) (s : State),
    reply.good s.cfg.nResp = true → s.card = reply.bytes ++ rest →
    exec .cmd1 s = .next { afterReply 1 0x00000000 reply rest s with
      phase := if reply.returned = 0x00 then Phase.iDone else Phase.iFail }

/-- Derived (R180): CMD58; the OCR bytes are read only on `0x00`, CCS latches bit 6 of the first one, and every outcome goes on to step 7. -/
def Obligations.Cmd58LatchesCapacityBit : Prop :=
  (∀ (reply : Reply) (rest : List Byte) (s : State),
    reply.good s.cfg.nResp = true → s.card = reply.bytes ++ rest → reply.returned ≠ 0x00 →
    exec .cmd58 s = .next { afterReply 58 0x00000000 reply rest s with phase := Phase.iDone }) ∧
  (∀ (reply : Reply) (a b c d : Byte) (rest : List Byte) (s : State),
    reply.good s.cfg.nResp = true → s.card = reply.bytes ++ a :: b :: c :: d :: rest → reply.returned = 0x00 →
    exec .cmd58 s = .next { afterTrail a b c d rest (afterReply 58 0x00000000 reply (a :: b :: c :: d :: rest) s) with
      ccs := if a.getLsbD 6 then 1 else 0, phase := Phase.iDone })

/-- Derived (R202): CMD17; any response but `0x00` fails; `0x00` starts token polling, which fails at once when `N_TOKEN` is 0 (R203). -/
def Obligations.Cmd17ContinuesOnlyOnReady : Prop :=
  ∀ (arg : Word) (reply : Reply) (rest : List Byte) (s : State),
    reply.good s.cfg.nResp = true → s.card = reply.bytes ++ rest →
    exec (.cmd17 arg) s = .next (
      let t := afterReply 17 arg reply rest s
      if reply.returned = 0x00 then { t with pcnt := 0, phase := if 0 < s.cfg.nToken then Phase.rdToken else Phase.xFail }
      else { t with phase := Phase.xFail })

/-- Derived (R208): CMD24; any response but `0x00` aborts, no byte of the sector's data has been sent. -/
def Obligations.Cmd24ContinuesOnlyOnReady : Prop :=
  ∀ (arg : Word) (reply : Reply) (rest : List Byte) (s : State),
    reply.good s.cfg.nResp = true → s.card = reply.bytes ++ rest →
    exec (.cmd24 arg) s = .next { afterReply 24 arg reply rest s with
      phase := if reply.returned = 0x00 then Phase.wrToken else Phase.xFail }

/-- Derived frame of the eight wire commands, for every state and every card: what none of them writes (R143, R174 to R180, R202, R208),
and every byte of the buffer. -/
def Obligations.WireCommandsFrame : Prop :=
  ∀ (i : Instr) (s t : State),
    (i = .cmd0 ∨ i = .cmd8 ∨ i = .cmd55 ∨ (∃ h, i = .acmd41 h) ∨ i = .cmd1 ∨ i = .cmd58 ∨ (∃ a, i = .cmd17 a) ∨ (∃ a, i = .cmd24 a)) →
    exec i s = .next t →
    t.status = s.status ∧ t.speed = s.speed ∧ t.sect = s.sect ∧ t.sidx = s.sidx ∧ t.bcnt = s.bcnt ∧
      t.op = s.op ∧ t.unit = s.unit ∧ t.sector = s.sector ∧ t.count = s.count ∧ t.query = s.query ∧
      t.code = s.code ∧ t.flags = s.flags ∧ t.value = s.value ∧ t.host = s.host ∧ t.cfg = s.cfg ∧
      (∀ a, t.buf.read a = s.buf.read a) ∧
      (i ≠ .cmd8 → t.ctype = s.ctype) ∧ (i ≠ .cmd58 → t.ccs = s.ccs) ∧
      (i ≠ .cmd8 → i ≠ .cmd58 → t.trail0 = s.trail0 ∧ t.trail1 = s.trail1 ∧ t.trail2 = s.trail2 ∧ t.trail3 = s.trail3) ∧
      (i ≠ .cmd8 → (∀ h, i ≠ .acmd41 h) → t.icnt = s.icnt)

/-! ### INITIALIZE -/

/-- R171: an invalid unit is answered with flags `0x01`; nothing else happens. -/
def Obligations.InitializeInvalidUnit : Prop :=
  ∀ (unit : Byte) (s : State), unit ≠ unitValid →
    exec (.hostInitialize unit) s = .next { s with code := 0, flags := 0x01, value := 0, phase := Phase.idle }

/-- Derived (R181, R182, R22, R257): whatever the card answers, INITIALIZE ends in IDLE with the line high, either READY at `F_FAST` with flags
`0x00`, or NOT-INITIALIZED at `F_SLOW` with flags `0x01`. -/
def Obligations.InitializeEndsReadyOrFailed : Prop :=
  ∀ s : State, s.status = 0x00 ∨ s.status = 0x01 →
    ∃ t, exec (.hostInitialize unitValid) s = .next t ∧ t.phase = Phase.idle ∧ t.cs = 1 ∧ t.code = 0 ∧ t.value = 0 ∧
      ((t.status = 0x00 ∧ t.flags = 0x00 ∧ t.speed = some s.cfg.fFast ∧ t.ctype ≠ CardType.unknown) ∨
       (t.status = 0x01 ∧ t.flags = 0x01 ∧ t.speed = some s.cfg.fSlow ∧ t.ccs = 0))

/-- Derived frame of INITIALIZE with either unit: what it never writes. -/
def Obligations.InitializeFrame : Prop :=
  ∀ (unit : Byte) (s t : State), exec (.hostInitialize unit) s = .next t →
    t.cfg = s.cfg ∧ t.sect = s.sect ∧ t.sidx = s.sidx ∧ t.bcnt = s.bcnt ∧ t.op = s.op ∧ t.unit = s.unit ∧
      t.sector = s.sector ∧ t.count = s.count ∧ t.query = s.query ∧ t.host = s.host ∧
      (∀ a, t.buf.read a = s.buf.read a) ∧ (∀ n, 1 ≤ n → t.status.getLsbD n = s.status.getLsbD n)

/-- Derived (R174, R182): a go-idle response other than `0x01` (or none) is terminal: flags `0x01`, STATUS stays set, `F_SLOW`, CTYPE UNKNOWN, the
trace of step 1, CMD0 and the failure exit. -/
def Obligations.InitializeFailsAtGoIdle : Prop :=
  ∀ (power : List Byte) (reply : Reply) (last : Byte) (rest : List Byte) (s : State),
    power.length = s.cfg.nPwrup → reply.good s.cfg.nRespReset = true → reply.returned ≠ 0x01 →
    s.card = power ++ reply.bytes ++ last :: rest →
    exec (.hostInitialize unitValid) s = .next { s with
      status := s.status ||| 0x01, cs := 1, speed := some s.cfg.fSlow, ctype := CardType.unknown, ccs := 0, phase := Phase.idle,
      idx := 0, arg := 0, crc := 0x95, resp := reply.returned, pcnt := reply.polls.length,
      code := 0, flags := 0x01, value := 0, card := rest, xcount := s.xcount + power.length + reply.bytes.length + 1,
      log := (powerTrace s.cfg power ++ reply.trace (commandFrame 0 0) ++ deselectEvents last).reverse ++ s.log }

/-- Derived (R183), the loop path: steps 1 to 3, any number of waiting iterations below `N_ACMD`, an ACMD41 answered `0x00`, step 6 exactly when the
card is V2, step 7. -/
def Obligations.InitializeSucceedsByLoop : Prop :=
  ∀ (o : Opening) (waits : List Round) (last : Round) (ocr : Option OcrAnswer) (idle : Byte) (rest : List Byte) (s : State),
    o.good s.cfg = true → waitingRounds s.cfg waits = true → waits.length < s.cfg.nAcmd →
    last.begun s.cfg = true → last.op.returned = 0x00 →
    (o.cardType = CardType.v2 ↔ ocr.isSome = true) → (∀ a, ocr = some a → a.good s.cfg = true) →
    s.card = o.bytes ++ roundsBytes waits ++ last.bytes ++ (ocr.elim [] OcrAnswer.bytes) ++ idle :: rest →
    ∃ t, exec (.hostInitialize unitValid) s = .next t ∧
      t.status = (s.status ||| 0x01) &&& 0xFE ∧ t.cs = 1 ∧ t.speed = some s.cfg.fFast ∧ t.ctype = o.cardType ∧
      t.ccs = ocr.elim 0 OcrAnswer.capacity ∧ t.phase = Phase.idle ∧ t.code = 0 ∧ t.flags = 0x00 ∧ t.value = 0 ∧
      t.icnt = waits.length ∧ t.card = rest ∧ t.buf = s.buf ∧
      t.log = (o.trace s.cfg ++ roundsTrace o.cardType waits ++ last.trace o.cardType ++ (ocr.elim [] OcrAnswer.trace) ++
        deselectEvents idle ++ [Event.spd s.cfg.fFast]).reverse ++ s.log

/-- Derived (R179, R183), the fallback path: an iteration whose CMD55 is rejected, CMD1 once, no step 6; success exactly when CMD1 answers `0x00`. -/
def Obligations.InitializeFallsBackOnce : Prop :=
  ∀ (o : Opening) (waits : List Round) (app op : Reply) (idle : Byte) (rest : List Byte) (s : State),
    o.good s.cfg = true → waitingRounds s.cfg waits = true → waits.length < s.cfg.nAcmd →
    app.good s.cfg.nResp = true → 1 < app.returned.toNat → op.good s.cfg.nResp = true →
    s.card = o.bytes ++ roundsBytes waits ++ app.bytes ++ op.bytes ++ idle :: rest →
    ∃ t, exec (.hostInitialize unitValid) s = .next t ∧ t.cs = 1 ∧ t.ctype = o.cardType ∧ t.ccs = 0 ∧ t.phase = Phase.idle ∧
      t.code = 0 ∧ t.value = 0 ∧ t.card = rest ∧
      (if op.returned = 0x00 then t.status = (s.status ||| 0x01) &&& 0xFE ∧ t.flags = 0x00 ∧ t.speed = some s.cfg.fFast
       else t.status = s.status ||| 0x01 ∧ t.flags = 0x01 ∧ t.speed = some s.cfg.fSlow) ∧
      t.log = (o.trace s.cfg ++ roundsTrace o.cardType waits ++ app.trace (commandFrame 55 0) ++ op.trace (commandFrame 1 0) ++
        deselectEvents idle ++ (if op.returned = 0x00 then [Event.spd s.cfg.fFast] else [])).reverse ++ s.log

/-- Derived (R176, R254): `N_ACMD` iterations without `0x00` and without an abort are a timeout failure; no fallback. -/
def Obligations.InitializeTimesOutInLoop : Prop :=
  ∀ (o : Opening) (waits : List Round) (idle : Byte) (rest : List Byte) (s : State),
    o.good s.cfg = true → waitingRounds s.cfg waits = true → waits.length = s.cfg.nAcmd →
    s.card = o.bytes ++ roundsBytes waits ++ idle :: rest →
    ∃ t, exec (.hostInitialize unitValid) s = .next t ∧ t.status = s.status ||| 0x01 ∧ t.flags = 0x01 ∧ t.cs = 1 ∧
      t.speed = some s.cfg.fSlow ∧ t.ctype = o.cardType ∧ t.ccs = 0 ∧ t.phase = Phase.idle ∧ t.code = 0 ∧ t.value = 0 ∧
      t.icnt = s.cfg.nAcmd ∧ t.card = rest ∧
      t.log = (o.trace s.cfg ++ roundsTrace o.cardType waits ++ deselectEvents idle).reverse ++ s.log

/-- Derived (R185, R310): the bound on the exchanges of INITIALIZE, for every card. -/
def Obligations.InitializeExchangesBounded : Prop :=
  ∀ (unit : Byte) (s t : State), exec (.hostInitialize unit) s = .next t →
    t.xcount ≤ s.xcount + s.cfg.nPwrup + (8 + s.cfg.nRespReset) + (11 + s.cfg.nResp) + 2 * s.cfg.nAcmd * (8 + s.cfg.nResp) +
      (11 + s.cfg.nResp) + 1

/-! ### STATUS and IOCTL -/

/-- R230: STATUS. -/
def Obligations.StatusAnswersFlag : Prop :=
  ∀ (unit : Byte) (s : State),
    exec (.hostStatus unit) s = .next { s with
      code := 0, flags := if unit = unitValid then s.status &&& 0x01 else 0x01, value := 0, phase := Phase.idle }

/-- R232, R233, R234: each of the three queries answers its constant on a READY device and NotReady on a NOT-INITIALIZED one; nothing
but the response registers changes. -/
def Obligations.QueriesAnswerByStatus : Prop :=
  ∀ s : State,
    (s.status.getLsbD 0 = false →
      exec (.ioctlCtrlSync unitValid) s = .next { s with code := 0, flags := 0x00, value := 0, phase := Phase.idle } ∧
      exec (.ioctlGetSectorSize unitValid) s = .next { s with code := 0, flags := 0x00, value := 512, phase := Phase.idle } ∧
      exec (.ioctlGetBlockSize unitValid) s = .next { s with code := 0, flags := 0x00, value := 1, phase := Phase.idle }) ∧
    (s.status.getLsbD 0 = true →
      ∀ i : Instr, i = .ioctlCtrlSync unitValid ∨ i = .ioctlGetSectorSize unitValid ∨ i = .ioctlGetBlockSize unitValid →
        exec i s = .next { s with code := 3, flags := 0x01, value := 0, phase := Phase.idle })

/-! ### READ and WRITE -/

/-- R201: the pre-checks of READ and WRITE, in their order; nothing but the response registers changes. -/
def Obligations.TransferPrechecks : Prop :=
  ∀ (i : Instr) (unit : Byte) (sector count : Word) (s : State),
    (i = .hostRead unit sector count ∨ i = .hostWrite unit sector count) →
    (unit ≠ unitValid → exec i s = .next { s with code := 4, flags := 0x01, value := 0, phase := Phase.idle }) ∧
    (unit = unitValid → count = 0 →
      exec i s = .next { s with code := 4, flags := s.status &&& 0x01, value := 0, phase := Phase.idle }) ∧
    (unit = unitValid → count ≠ 0 → s.status.getLsbD 0 = true →
      exec i s = .next { s with code := 3, flags := 0x01, value := 0, phase := Phase.idle })

/-- R23: a READ, WRITE or IOCTL request that finds NOINIT = 1 makes no event and touches no buffer byte. -/
def Obligations.NotInitializedMakesNoTraffic : Prop :=
  ∀ (s : State) (c : HostCall) (rest : List HostCall),
    s.phase = Phase.idle → s.host = c :: rest → (c.req.op = 2 ∨ c.req.op = 3 ∨ c.req.op = 4) → s.status.getLsbD 0 = true →
    ∃ t, step s = .next t ∧ t.phase = Phase.idle ∧ t.log = s.log ∧ t.buf = c.buf.getD s.buf ∧ t.cs = s.cs ∧ t.card = s.card ∧
      t.xcount = s.xcount ∧ (t.code = 4 ∨ (t.code = 3 ∧ c.req.unit = unitValid))

/-- R204, R205 (within R206), success: `count` sectors read from a card that answers each command with `0x00`, sends the token within `N_TOKEN` polls and 512
payload bytes: RES_OK, the exact trace, byte `j` of the `i`-th sector at offset `i*512 + j`, every other byte of the buffer unchanged, and
the frame. -/
def Obligations.ReadStoresEverySector : Prop :=
  ∀ (sector count : Word) (as : List ReadAnswer) (rest : List Byte) (s : State),
    s.status.getLsbD 0 = false → count ≠ 0 → as.length = count.toNat → as.all (ReadAnswer.good s.cfg) = true → s.buf.wf = true →
    s.card = readBytes as ++ rest →
    ∃ t, exec (.hostRead unitValid sector count) s = .next t ∧
      t.code = 0 ∧ t.flags = 0x00 ∧ t.value = 0 ∧ t.phase = Phase.idle ∧ t.cs = 1 ∧ t.sidx = count.toNat ∧ t.card = rest ∧
      t.log = (readTrace s.cfg sector 0 as).reverse ++ s.log ∧
      (∀ i a, as[i]? = some a → ∀ j v, a.payload[j]? = some v → t.buf.read (bufOffset i j) = v) ∧
      (∀ off, bufSize count ≤ off → t.buf.read off = s.buf.read off) ∧
      t = { s with idx := t.idx, arg := t.arg, crc := t.crc, resp := t.resp, sect := t.sect, sidx := t.sidx, bcnt := t.bcnt,
                   pcnt := t.pcnt, cs := t.cs, phase := t.phase, code := t.code, flags := t.flags, value := t.value,
                   buf := t.buf, card := t.card, xcount := t.xcount, log := t.log }

/-- Derived (R202, R203, R206, R215): after `c` good sectors a failing one ends READ with RES_ERROR; the sectors before it are stored, its own buffer
bytes and all after it are untouched, STATUS stays READY. -/
def Obligations.ReadFailsAtSector : Prop :=
  ∀ (sector count : Word) (as : List ReadAnswer) (bad : ReadFailure) (last : Byte) (rest : List Byte) (s : State),
    s.status.getLsbD 0 = false → as.length < count.toNat → as.all (ReadAnswer.good s.cfg) = true → bad.good s.cfg = true → s.buf.wf = true →
    s.card = readBytes as ++ bad.bytes ++ last :: rest →
    ∃ t, exec (.hostRead unitValid sector count) s = .next t ∧
      t.code = 1 ∧ t.flags = 0x00 ∧ t.value = 0 ∧ t.phase = Phase.idle ∧ t.cs = 1 ∧ t.status = s.status ∧ t.speed = s.speed ∧
      t.sidx = as.length ∧ t.card = rest ∧
      t.log = (readTrace s.cfg sector 0 as ++ bad.trace (sectorFrame 17 s.cfg sector as.length) ++
        deselectEvents last).reverse ++ s.log ∧
      (∀ i a, as[i]? = some a → ∀ j v, a.payload[j]? = some v → t.buf.read (bufOffset i j) = v) ∧
      (∀ off, as.length * 512 ≤ off → t.buf.read off = s.buf.read off)

/-- Derived (R200, R215, R257), for every card: READ of a READY device ends in IDLE deselected, with RES_OK exactly when all sectors were read and
RES_ERROR otherwise; bytes from the failing sector on are untouched; no lasting register but CS changes. -/
def Obligations.ReadOutcome : Prop :=
  ∀ (sector count : Word) (s : State), s.status.getLsbD 0 = false → count ≠ 0 → s.buf.wf = true →
    ∃ t, exec (.hostRead unitValid sector count) s = .next t ∧
      t.phase = Phase.idle ∧ t.cs = 1 ∧ t.flags = 0x00 ∧ t.value = 0 ∧ t.sidx ≤ count.toNat ∧
      (t.code = 0 ∧ t.sidx = count.toNat ∨ t.code = 1 ∧ t.sidx < count.toNat) ∧
      t.status = s.status ∧ t.ctype = s.ctype ∧ t.ccs = s.ccs ∧ t.speed = s.speed ∧ t.buf.wf = true ∧
      (∀ off, t.sidx * 512 ≤ off → t.buf.read off = s.buf.read off)

/-- R209, R210, R213 (within R214), success: `count` sectors sent to a card that answers each command with `0x00`, accepts each block and reports not-busy within
`N_BUSY` polls: RES_OK, the exact trace with every buffer byte read once and sent unchanged in order, the buffer unchanged, and the frame. -/
def Obligations.WriteSendsEverySector : Prop :=
  ∀ (sector count : Word) (as : List WriteAnswer) (rest : List Byte) (s : State),
    s.status.getLsbD 0 = false → count ≠ 0 → as.length = count.toNat → as.all (WriteAnswer.good s.cfg) = true →
    s.card = writeBytes as ++ rest →
    ∃ t, exec (.hostWrite unitValid sector count) s = .next t ∧
      t.code = 0 ∧ t.flags = 0x00 ∧ t.value = 0 ∧ t.phase = Phase.idle ∧ t.cs = 1 ∧ t.sidx = count.toNat ∧ t.card = rest ∧
      t.log = (writeTrace s.cfg sector s.buf 0 as).reverse ++ s.log ∧
      (∀ a, t.buf.read a = s.buf.read a) ∧
      t = { s with idx := t.idx, arg := t.arg, crc := t.crc, resp := t.resp, sect := t.sect, sidx := t.sidx, bcnt := t.bcnt,
                   pcnt := t.pcnt, cs := t.cs, phase := t.phase, code := t.code, flags := t.flags, value := t.value,
                   card := t.card, xcount := t.xcount, log := t.log }

/-- Derived (R208, R211, R212, R214, R215): after `c` good sectors a refused command, a rejected block or an endless busy ends WRITE with RES_ERROR
after exactly these events; no command for a later sector is sent. -/
def Obligations.WriteFailsAtSector : Prop :=
  ∀ (sector count : Word) (as : List WriteAnswer) (bad : WriteFailure) (last : Byte) (rest : List Byte) (s : State),
    s.status.getLsbD 0 = false → as.length < count.toNat → as.all (WriteAnswer.good s.cfg) = true → bad.good s.cfg = true →
    s.card = writeBytes as ++ bad.bytes ++ last :: rest →
    ∃ t, exec (.hostWrite unitValid sector count) s = .next t ∧
      t.code = 1 ∧ t.flags = 0x00 ∧ t.value = 0 ∧ t.phase = Phase.idle ∧ t.cs = 1 ∧ t.status = s.status ∧ t.speed = s.speed ∧
      t.sidx = as.length ∧ t.card = rest ∧ t.buf = s.buf ∧
      t.log = (writeTrace s.cfg sector s.buf 0 as ++ bad.trace (sectorFrame 24 s.cfg sector as.length) s.buf as.length ++
        deselectEvents last).reverse ++ s.log

/-- Derived (R207, R257), for every card: WRITE of a READY device ends in IDLE deselected with RES_OK or RES_ERROR; buffer and lasting registers
but CS are unchanged. -/
def Obligations.WriteOutcome : Prop :=
  ∀ (sector count : Word) (s : State), s.status.getLsbD 0 = false → count ≠ 0 →
    ∃ t, exec (.hostWrite unitValid sector count) s = .next t ∧
      t.phase = Phase.idle ∧ t.cs = 1 ∧ t.flags = 0x00 ∧ t.value = 0 ∧
      (t.code = 0 ∧ t.sidx = count.toNat ∨ t.code = 1 ∧ t.sidx < count.toNat) ∧
      t.status = s.status ∧ t.ctype = s.ctype ∧ t.ccs = s.ccs ∧ t.speed = s.speed ∧ t.buf = s.buf

/-- Derived (R216, R310): the bounds on the exchanges of READ and WRITE, for every card. -/
def Obligations.TransferExchangesBounded : Prop :=
  ∀ (unit : Byte) (sector count : Word) (s t : State),
    (exec (.hostRead unit sector count) s = .next t →
      t.xcount ≤ s.xcount + count.toNat * (8 + s.cfg.nResp + s.cfg.nToken + 515)) ∧
    (exec (.hostWrite unit sector count) s = .next t →
      t.xcount ≤ s.xcount + count.toNat * (8 + s.cfg.nResp + s.cfg.nBusy + 518))

/-- Derived (R217, R69, R64): round trip. A successful WRITE adds events `evs`; a card reads from them one block per sector, with its
argument (`blocksSent`). READ, started with ANY buffer `m` against a card whose payloads are those blocks, addresses the same arguments
(its trace), ends with RES_OK and leaves every byte of the region as it was in the buffer WRITE was given. The card's script is chosen
after WRITE, as what an echoing card answers depends on what it was sent. -/
def Obligations.WriteThenReadRoundTrips : Prop :=
  ∀ (sector count : Word) (ws : List WriteAnswer) (rest : List Byte) (evs : List Event) (s t : State),
    s.status.getLsbD 0 = false → count ≠ 0 → ws.length = count.toNat → ws.all (WriteAnswer.good s.cfg) = true →
    s.card = writeBytes ws ++ rest →
    exec (.hostWrite unitValid sector count) s = .next t → t.log = evs.reverse ++ s.log →
    t.code = 0 ∧
      (blocksSent evs).map Prod.fst = (List.range count.toNat).map (fun i => blockArg s.cfg.addrMode (sectorIndex sector i)) ∧
      ∀ (m : Memory) (rs : List ReadAnswer) (rest' : List Byte),
        m.wf = true → rs.length = count.toNat → rs.all (ReadAnswer.good s.cfg) = true →
        rs.map ReadAnswer.payload = (blocksSent evs).map Prod.snd →
        ∃ u, exec (.hostRead unitValid sector count) { t with buf := m, card := readBytes rs ++ rest' } = .next u ∧
          u.code = 0 ∧ u.log = (readTrace s.cfg sector 0 rs).reverse ++ t.log ∧
          ∀ off, off < bufSize count → u.buf.read off = s.buf.read off

/-! ### Whole-machine rules -/

/-- Derived (R24, R25, R27, R264): no instruction but INITIALIZE changes the mode or SPEED; CTYPE and CCS change only through CMD8 and
CMD58, which only INITIALIZE sends. -/
def Obligations.OnlyInitializeChangesMode : Prop :=
  ∀ (i : Instr) (s t : State), (∀ u, i ≠ .hostInitialize u) → exec i s = .next t →
    t.status = s.status ∧ t.speed = s.speed ∧ (i ≠ .cmd8 → t.ctype = s.ctype) ∧ (i ≠ .cmd58 → t.ccs = s.ccs)

/-- Derived (R61, R62): READ only writes the buffer, WRITE only reads it, every other instruction leaves it alone; said of the events each adds. -/
def Obligations.BufferPortDiscipline : Prop :=
  ∀ (i : Instr) (s t : State), exec i s = .next t →
    ∃ evs, t.log = evs ++ s.log ∧
      ((∀ u a c, i ≠ .hostRead u a c) → (∀ off v, Event.memWrite off v ∉ evs) ∧ t.buf = s.buf) ∧
      ((∀ u a c, i ≠ .hostWrite u a c) → ∀ off v, Event.memRead off v ∉ evs) ∧
      (∀ off v, Event.memWrite off v ∈ evs ∨ Event.memRead off v ∈ evs →
        ∃ u a c, (i = .hostRead u a c ∨ i = .hostWrite u a c) ∧ off < bufSize c)
end

