-- ==== Sys2Proof/Laws/Memory.lean ====
section
/-! SUPPORT. The laws of the transfer buffer: canonical form kept, read after write, and equality of canonical buffers. -/

namespace Sys2Proof.Machine

/-- Every cell of a buffer whose cells all lie above `a` reads as unlisted at `a`. -/
theorem Memory.read_below (m : Memory) (a : Nat) (h : m.all (fun d => decide (a < d.1)) = true) :
    m.read a = Memory.unlisted := by
  induction m with
  | nil => rfl
  | cons c m ih =>
    simp only [List.all_cons, Bool.and_eq_true, decide_eq_true_eq] at h
    simp only [Memory.read, if_neg (show ¬ c.1 = a by omega)]
    exact ih h.2

theorem Memory.read_write_same (m : Memory) (a : Nat) (v : Byte) (h : m.wf = true) : (m.write a v).read a = v := by
  induction m with
  | nil => by_cases hv : v = Memory.unlisted <;> simp [Memory.write, Memory.read, hv]
  | cons c m ih =>
    simp only [Memory.wf, Bool.and_eq_true] at h
    obtain ⟨⟨-, hall⟩, hm⟩ := h
    by_cases h1 : a < c.1
    · have hlow : m.all (fun d => decide (a < d.1)) = true := by
        simp only [List.all_eq_true, decide_eq_true_eq] at hall ⊢
        intro d hd
        have := hall d hd
        omega
      by_cases hv : v = Memory.unlisted
      · simp only [Memory.write, if_pos h1, if_pos hv, Memory.read, if_neg (show ¬ c.1 = a by omega)]
        rw [Memory.read_below m a hlow, hv]
      · simp [Memory.write, h1, hv, Memory.read]
    · by_cases h2 : a = c.1
      · subst h2
        by_cases hv : v = Memory.unlisted
        · simp only [Memory.write, if_neg h1, if_pos hv, if_true]
          rw [Memory.read_below m _ hall, hv]
        · simp [Memory.write, hv, Memory.read]
      · simp only [Memory.write, if_neg h1, if_neg h2, Memory.read, if_neg (Ne.symm h2)]
        exact ih hm

theorem Memory.read_write_other (m : Memory) (a b : Nat) (v : Byte) (hab : b ≠ a) : (m.write a v).read b = m.read b := by
  induction m with
  | nil =>
    by_cases hv : v = Memory.unlisted
    · simp [Memory.write, hv]
    · simp [Memory.write, hv, Memory.read, Ne.symm hab]
  | cons c m ih =>
    by_cases h1 : a < c.1
    · by_cases hv : v = Memory.unlisted
      · simp [Memory.write, h1, hv]
      · simp [Memory.write, h1, hv, Memory.read, Ne.symm hab]
    · by_cases h2 : a = c.1
      · subst h2
        by_cases hv : v = Memory.unlisted <;> simp [Memory.write, hv, Memory.read, Ne.symm hab]
      · simp only [Memory.write, if_neg h1, if_neg h2, Memory.read]
        rw [ih]

/-- Writing adds at most the cell written. -/
theorem Memory.mem_write (m : Memory) (a : Nat) (v : Byte) (d : Host.Cell) (h : d ∈ m.write a v) : d = (a, v) ∨ d ∈ m := by
  induction m with
  | nil =>
    by_cases hv : v = Memory.unlisted
    · simp [Memory.write, hv] at h
    · simp only [Memory.write, if_neg hv, List.mem_singleton] at h
      exact .inl h
  | cons c m ih =>
    simp only [Memory.write] at h
    split at h
    · split at h
      · exact .inr h
      · rcases List.mem_cons.mp h with h | h
        · exact .inl h
        · exact .inr h
    · split at h
      · split at h
        · exact .inr (List.mem_cons_of_mem _ h)
        · rcases List.mem_cons.mp h with h | h
          · exact .inl h
          · exact .inr (List.mem_cons_of_mem _ h)
      · rcases List.mem_cons.mp h with h | h
        · exact .inr (h ▸ List.mem_cons_self)
        · exact (ih h).imp id (List.mem_cons_of_mem _)

/-- The only operation that changes a buffer keeps its canonical form. -/
theorem Memory.wf_write (m : Memory) (a : Nat) (v : Byte) (h : m.wf = true) : (m.write a v).wf = true := by
  induction m with
  | nil => by_cases hv : v = Memory.unlisted <;> simp [Memory.write, Memory.wf, hv]
  | cons c m ih =>
    have hc := h
    simp only [Memory.wf, Bool.and_eq_true] at hc
    obtain ⟨⟨hne, hall⟩, hm⟩ := hc
    by_cases h1 : a < c.1
    · by_cases hv : v = Memory.unlisted
      · simpa [Memory.write, h1, hv] using h
      · simp only [Memory.write, if_pos h1, if_neg hv]
        rw [Memory.wf, Bool.and_eq_true, Bool.and_eq_true]
        refine ⟨⟨by simpa using hv, ?_⟩, h⟩
        simp only [List.all_cons, Bool.and_eq_true, List.all_eq_true, decide_eq_true_eq] at hall ⊢
        exact ⟨h1, fun d hd => Nat.lt_trans h1 (hall d hd)⟩
    · by_cases h2 : a = c.1
      · by_cases hv : v = Memory.unlisted
        · simpa [Memory.write, h1, h2, hv] using hm
        · simp only [Memory.write, if_neg h1, if_pos h2, if_neg hv, Memory.wf, Bool.and_eq_true]
          exact ⟨⟨by simpa using hv, by rw [h2]; exact hall⟩, hm⟩
      · simp only [Memory.write, if_neg h1, if_neg h2, Memory.wf, Bool.and_eq_true]
        refine ⟨⟨hne, ?_⟩, ih hm⟩
        simp only [List.all_eq_true, decide_eq_true_eq] at hall ⊢
        intro d hd
        rcases Memory.mem_write m a v d hd with h | h
        · subst h
          show c.1 < a
          omega
        · exact hall d h

/-- The buffer of the reset state is canonical. -/
theorem Memory.wf_reset : State.reset.buf.wf = true := rfl

end Sys2Proof.Machine
end

