-- ==== Sys2Proof/Laws/State.lean ====
section
/-! SUPPORT. One lemma per field per named update of State, true by rfl, so that no proof unfolds a record update. -/

namespace Sys2Proof.Machine

section gotoFields
@[simp] theorem goto_cfg (p : Phase) (s : State) : (goto p s).cfg = s.cfg := rfl
@[simp] theorem goto_status (p : Phase) (s : State) : (goto p s).status = s.status := rfl
@[simp] theorem goto_cs (p : Phase) (s : State) : (goto p s).cs = s.cs := rfl
@[simp] theorem goto_speed (p : Phase) (s : State) : (goto p s).speed = s.speed := rfl
@[simp] theorem goto_ctype (p : Phase) (s : State) : (goto p s).ctype = s.ctype := rfl
@[simp] theorem goto_ccs (p : Phase) (s : State) : (goto p s).ccs = s.ccs := rfl
@[simp] theorem goto_phase (p : Phase) (s : State) : (goto p s).phase = p := rfl
@[simp] theorem goto_idx (p : Phase) (s : State) : (goto p s).idx = s.idx := rfl
@[simp] theorem goto_arg (p : Phase) (s : State) : (goto p s).arg = s.arg := rfl
@[simp] theorem goto_crc (p : Phase) (s : State) : (goto p s).crc = s.crc := rfl
@[simp] theorem goto_resp (p : Phase) (s : State) : (goto p s).resp = s.resp := rfl
@[simp] theorem goto_trail0 (p : Phase) (s : State) : (goto p s).trail0 = s.trail0 := rfl
@[simp] theorem goto_trail1 (p : Phase) (s : State) : (goto p s).trail1 = s.trail1 := rfl
@[simp] theorem goto_trail2 (p : Phase) (s : State) : (goto p s).trail2 = s.trail2 := rfl
@[simp] theorem goto_trail3 (p : Phase) (s : State) : (goto p s).trail3 = s.trail3 := rfl
@[simp] theorem goto_sect (p : Phase) (s : State) : (goto p s).sect = s.sect := rfl
@[simp] theorem goto_sidx (p : Phase) (s : State) : (goto p s).sidx = s.sidx := rfl
@[simp] theorem goto_bcnt (p : Phase) (s : State) : (goto p s).bcnt = s.bcnt := rfl
@[simp] theorem goto_pcnt (p : Phase) (s : State) : (goto p s).pcnt = s.pcnt := rfl
@[simp] theorem goto_icnt (p : Phase) (s : State) : (goto p s).icnt = s.icnt := rfl
@[simp] theorem goto_op (p : Phase) (s : State) : (goto p s).op = s.op := rfl
@[simp] theorem goto_unit (p : Phase) (s : State) : (goto p s).unit = s.unit := rfl
@[simp] theorem goto_sector (p : Phase) (s : State) : (goto p s).sector = s.sector := rfl
@[simp] theorem goto_count (p : Phase) (s : State) : (goto p s).count = s.count := rfl
@[simp] theorem goto_query (p : Phase) (s : State) : (goto p s).query = s.query := rfl
@[simp] theorem goto_code (p : Phase) (s : State) : (goto p s).code = s.code := rfl
@[simp] theorem goto_flags (p : Phase) (s : State) : (goto p s).flags = s.flags := rfl
@[simp] theorem goto_value (p : Phase) (s : State) : (goto p s).value = s.value := rfl
@[simp] theorem goto_buf (p : Phase) (s : State) : (goto p s).buf = s.buf := rfl
@[simp] theorem goto_host (p : Phase) (s : State) : (goto p s).host = s.host := rfl
@[simp] theorem goto_card (p : Phase) (s : State) : (goto p s).card = s.card := rfl
@[simp] theorem goto_xcount (p : Phase) (s : State) : (goto p s).xcount = s.xcount := rfl
@[simp] theorem goto_log (p : Phase) (s : State) : (goto p s).log = s.log := rfl
end gotoFields

section selectFields
@[simp] theorem select_cfg (a : Bool) (s : State) : (select a s).cfg = s.cfg := rfl
@[simp] theorem select_status (a : Bool) (s : State) : (select a s).status = s.status := rfl
@[simp] theorem select_cs (a : Bool) (s : State) : (select a s).cs = (if a then 0 else 1) := rfl
@[simp] theorem select_speed (a : Bool) (s : State) : (select a s).speed = s.speed := rfl
@[simp] theorem select_ctype (a : Bool) (s : State) : (select a s).ctype = s.ctype := rfl
@[simp] theorem select_ccs (a : Bool) (s : State) : (select a s).ccs = s.ccs := rfl
@[simp] theorem select_phase (a : Bool) (s : State) : (select a s).phase = s.phase := rfl
@[simp] theorem select_idx (a : Bool) (s : State) : (select a s).idx = s.idx := rfl
@[simp] theorem select_arg (a : Bool) (s : State) : (select a s).arg = s.arg := rfl
@[simp] theorem select_crc (a : Bool) (s : State) : (select a s).crc = s.crc := rfl
@[simp] theorem select_resp (a : Bool) (s : State) : (select a s).resp = s.resp := rfl
@[simp] theorem select_trail0 (a : Bool) (s : State) : (select a s).trail0 = s.trail0 := rfl
@[simp] theorem select_trail1 (a : Bool) (s : State) : (select a s).trail1 = s.trail1 := rfl
@[simp] theorem select_trail2 (a : Bool) (s : State) : (select a s).trail2 = s.trail2 := rfl
@[simp] theorem select_trail3 (a : Bool) (s : State) : (select a s).trail3 = s.trail3 := rfl
@[simp] theorem select_sect (a : Bool) (s : State) : (select a s).sect = s.sect := rfl
@[simp] theorem select_sidx (a : Bool) (s : State) : (select a s).sidx = s.sidx := rfl
@[simp] theorem select_bcnt (a : Bool) (s : State) : (select a s).bcnt = s.bcnt := rfl
@[simp] theorem select_pcnt (a : Bool) (s : State) : (select a s).pcnt = s.pcnt := rfl
@[simp] theorem select_icnt (a : Bool) (s : State) : (select a s).icnt = s.icnt := rfl
@[simp] theorem select_op (a : Bool) (s : State) : (select a s).op = s.op := rfl
@[simp] theorem select_unit (a : Bool) (s : State) : (select a s).unit = s.unit := rfl
@[simp] theorem select_sector (a : Bool) (s : State) : (select a s).sector = s.sector := rfl
@[simp] theorem select_count (a : Bool) (s : State) : (select a s).count = s.count := rfl
@[simp] theorem select_query (a : Bool) (s : State) : (select a s).query = s.query := rfl
@[simp] theorem select_code (a : Bool) (s : State) : (select a s).code = s.code := rfl
@[simp] theorem select_flags (a : Bool) (s : State) : (select a s).flags = s.flags := rfl
@[simp] theorem select_value (a : Bool) (s : State) : (select a s).value = s.value := rfl
@[simp] theorem select_buf (a : Bool) (s : State) : (select a s).buf = s.buf := rfl
@[simp] theorem select_host (a : Bool) (s : State) : (select a s).host = s.host := rfl
@[simp] theorem select_card (a : Bool) (s : State) : (select a s).card = s.card := rfl
@[simp] theorem select_xcount (a : Bool) (s : State) : (select a s).xcount = s.xcount := rfl
@[simp] theorem select_log (a : Bool) (s : State) : (select a s).log = .sel (if a then 0 else 1) :: s.log := rfl
end selectFields

section setSpeedFields
@[simp] theorem setSpeed_cfg (hz : Nat) (s : State) : (setSpeed hz s).cfg = s.cfg := rfl
@[simp] theorem setSpeed_status (hz : Nat) (s : State) : (setSpeed hz s).status = s.status := rfl
@[simp] theorem setSpeed_cs (hz : Nat) (s : State) : (setSpeed hz s).cs = s.cs := rfl
@[simp] theorem setSpeed_speed (hz : Nat) (s : State) : (setSpeed hz s).speed = some hz := rfl
@[simp] theorem setSpeed_ctype (hz : Nat) (s : State) : (setSpeed hz s).ctype = s.ctype := rfl
@[simp] theorem setSpeed_ccs (hz : Nat) (s : State) : (setSpeed hz s).ccs = s.ccs := rfl
@[simp] theorem setSpeed_phase (hz : Nat) (s : State) : (setSpeed hz s).phase = s.phase := rfl
@[simp] theorem setSpeed_idx (hz : Nat) (s : State) : (setSpeed hz s).idx = s.idx := rfl
@[simp] theorem setSpeed_arg (hz : Nat) (s : State) : (setSpeed hz s).arg = s.arg := rfl
@[simp] theorem setSpeed_crc (hz : Nat) (s : State) : (setSpeed hz s).crc = s.crc := rfl
@[simp] theorem setSpeed_resp (hz : Nat) (s : State) : (setSpeed hz s).resp = s.resp := rfl
@[simp] theorem setSpeed_trail0 (hz : Nat) (s : State) : (setSpeed hz s).trail0 = s.trail0 := rfl
@[simp] theorem setSpeed_trail1 (hz : Nat) (s : State) : (setSpeed hz s).trail1 = s.trail1 := rfl
@[simp] theorem setSpeed_trail2 (hz : Nat) (s : State) : (setSpeed hz s).trail2 = s.trail2 := rfl
@[simp] theorem setSpeed_trail3 (hz : Nat) (s : State) : (setSpeed hz s).trail3 = s.trail3 := rfl
@[simp] theorem setSpeed_sect (hz : Nat) (s : State) : (setSpeed hz s).sect = s.sect := rfl
@[simp] theorem setSpeed_sidx (hz : Nat) (s : State) : (setSpeed hz s).sidx = s.sidx := rfl
@[simp] theorem setSpeed_bcnt (hz : Nat) (s : State) : (setSpeed hz s).bcnt = s.bcnt := rfl
@[simp] theorem setSpeed_pcnt (hz : Nat) (s : State) : (setSpeed hz s).pcnt = s.pcnt := rfl
@[simp] theorem setSpeed_icnt (hz : Nat) (s : State) : (setSpeed hz s).icnt = s.icnt := rfl
@[simp] theorem setSpeed_op (hz : Nat) (s : State) : (setSpeed hz s).op = s.op := rfl
@[simp] theorem setSpeed_unit (hz : Nat) (s : State) : (setSpeed hz s).unit = s.unit := rfl
@[simp] theorem setSpeed_sector (hz : Nat) (s : State) : (setSpeed hz s).sector = s.sector := rfl
@[simp] theorem setSpeed_count (hz : Nat) (s : State) : (setSpeed hz s).count = s.count := rfl
@[simp] theorem setSpeed_query (hz : Nat) (s : State) : (setSpeed hz s).query = s.query := rfl
@[simp] theorem setSpeed_code (hz : Nat) (s : State) : (setSpeed hz s).code = s.code := rfl
@[simp] theorem setSpeed_flags (hz : Nat) (s : State) : (setSpeed hz s).flags = s.flags := rfl
@[simp] theorem setSpeed_value (hz : Nat) (s : State) : (setSpeed hz s).value = s.value := rfl
@[simp] theorem setSpeed_buf (hz : Nat) (s : State) : (setSpeed hz s).buf = s.buf := rfl
@[simp] theorem setSpeed_host (hz : Nat) (s : State) : (setSpeed hz s).host = s.host := rfl
@[simp] theorem setSpeed_card (hz : Nat) (s : State) : (setSpeed hz s).card = s.card := rfl
@[simp] theorem setSpeed_xcount (hz : Nat) (s : State) : (setSpeed hz s).xcount = s.xcount := rfl
@[simp] theorem setSpeed_log (hz : Nat) (s : State) : (setSpeed hz s).log = .spd hz :: s.log := rfl
end setSpeedFields

section xchgFields
@[simp] theorem xchg_cfg (o : Byte) (s : State) : (xchg o s).cfg = s.cfg := rfl
@[simp] theorem xchg_status (o : Byte) (s : State) : (xchg o s).status = s.status := rfl
@[simp] theorem xchg_cs (o : Byte) (s : State) : (xchg o s).cs = s.cs := rfl
@[simp] theorem xchg_speed (o : Byte) (s : State) : (xchg o s).speed = s.speed := rfl
@[simp] theorem xchg_ctype (o : Byte) (s : State) : (xchg o s).ctype = s.ctype := rfl
@[simp] theorem xchg_ccs (o : Byte) (s : State) : (xchg o s).ccs = s.ccs := rfl
@[simp] theorem xchg_phase (o : Byte) (s : State) : (xchg o s).phase = s.phase := rfl
@[simp] theorem xchg_idx (o : Byte) (s : State) : (xchg o s).idx = s.idx := rfl
@[simp] theorem xchg_arg (o : Byte) (s : State) : (xchg o s).arg = s.arg := rfl
@[simp] theorem xchg_crc (o : Byte) (s : State) : (xchg o s).crc = s.crc := rfl
@[simp] theorem xchg_resp (o : Byte) (s : State) : (xchg o s).resp = s.resp := rfl
@[simp] theorem xchg_trail0 (o : Byte) (s : State) : (xchg o s).trail0 = s.trail0 := rfl
@[simp] theorem xchg_trail1 (o : Byte) (s : State) : (xchg o s).trail1 = s.trail1 := rfl
@[simp] theorem xchg_trail2 (o : Byte) (s : State) : (xchg o s).trail2 = s.trail2 := rfl
@[simp] theorem xchg_trail3 (o : Byte) (s : State) : (xchg o s).trail3 = s.trail3 := rfl
@[simp] theorem xchg_sect (o : Byte) (s : State) : (xchg o s).sect = s.sect := rfl
@[simp] theorem xchg_sidx (o : Byte) (s : State) : (xchg o s).sidx = s.sidx := rfl
@[simp] theorem xchg_bcnt (o : Byte) (s : State) : (xchg o s).bcnt = s.bcnt := rfl
@[simp] theorem xchg_pcnt (o : Byte) (s : State) : (xchg o s).pcnt = s.pcnt := rfl
@[simp] theorem xchg_icnt (o : Byte) (s : State) : (xchg o s).icnt = s.icnt := rfl
@[simp] theorem xchg_op (o : Byte) (s : State) : (xchg o s).op = s.op := rfl
@[simp] theorem xchg_unit (o : Byte) (s : State) : (xchg o s).unit = s.unit := rfl
@[simp] theorem xchg_sector (o : Byte) (s : State) : (xchg o s).sector = s.sector := rfl
@[simp] theorem xchg_count (o : Byte) (s : State) : (xchg o s).count = s.count := rfl
@[simp] theorem xchg_query (o : Byte) (s : State) : (xchg o s).query = s.query := rfl
@[simp] theorem xchg_code (o : Byte) (s : State) : (xchg o s).code = s.code := rfl
@[simp] theorem xchg_flags (o : Byte) (s : State) : (xchg o s).flags = s.flags := rfl
@[simp] theorem xchg_value (o : Byte) (s : State) : (xchg o s).value = s.value := rfl
@[simp] theorem xchg_buf (o : Byte) (s : State) : (xchg o s).buf = s.buf := rfl
@[simp] theorem xchg_host (o : Byte) (s : State) : (xchg o s).host = s.host := rfl
@[simp] theorem xchg_card (o : Byte) (s : State) : (xchg o s).card = s.card.tail := rfl
@[simp] theorem xchg_xcount (o : Byte) (s : State) : (xchg o s).xcount = s.xcount + 1 := rfl
@[simp] theorem xchg_log (o : Byte) (s : State) : (xchg o s).log = .x o (rx s) :: s.log := rfl
end xchgFields

section memWriteFields
@[simp] theorem memWrite_cfg (off : Nat) (v : Byte) (s : State) : (memWrite off v s).cfg = s.cfg := rfl
@[simp] theorem memWrite_status (off : Nat) (v : Byte) (s : State) : (memWrite off v s).status = s.status := rfl
@[simp] theorem memWrite_cs (off : Nat) (v : Byte) (s : State) : (memWrite off v s).cs = s.cs := rfl
@[simp] theorem memWrite_speed (off : Nat) (v : Byte) (s : State) : (memWrite off v s).speed = s.speed := rfl
@[simp] theorem memWrite_ctype (off : Nat) (v : Byte) (s : State) : (memWrite off v s).ctype = s.ctype := rfl
@[simp] theorem memWrite_ccs (off : Nat) (v : Byte) (s : State) : (memWrite off v s).ccs = s.ccs := rfl
@[simp] theorem memWrite_phase (off : Nat) (v : Byte) (s : State) : (memWrite off v s).phase = s.phase := rfl
@[simp] theorem memWrite_idx (off : Nat) (v : Byte) (s : State) : (memWrite off v s).idx = s.idx := rfl
@[simp] theorem memWrite_arg (off : Nat) (v : Byte) (s : State) : (memWrite off v s).arg = s.arg := rfl
@[simp] theorem memWrite_crc (off : Nat) (v : Byte) (s : State) : (memWrite off v s).crc = s.crc := rfl
@[simp] theorem memWrite_resp (off : Nat) (v : Byte) (s : State) : (memWrite off v s).resp = s.resp := rfl
@[simp] theorem memWrite_trail0 (off : Nat) (v : Byte) (s : State) : (memWrite off v s).trail0 = s.trail0 := rfl
@[simp] theorem memWrite_trail1 (off : Nat) (v : Byte) (s : State) : (memWrite off v s).trail1 = s.trail1 := rfl
@[simp] theorem memWrite_trail2 (off : Nat) (v : Byte) (s : State) : (memWrite off v s).trail2 = s.trail2 := rfl
@[simp] theorem memWrite_trail3 (off : Nat) (v : Byte) (s : State) : (memWrite off v s).trail3 = s.trail3 := rfl
@[simp] theorem memWrite_sect (off : Nat) (v : Byte) (s : State) : (memWrite off v s).sect = s.sect := rfl
@[simp] theorem memWrite_sidx (off : Nat) (v : Byte) (s : State) : (memWrite off v s).sidx = s.sidx := rfl
@[simp] theorem memWrite_bcnt (off : Nat) (v : Byte) (s : State) : (memWrite off v s).bcnt = s.bcnt := rfl
@[simp] theorem memWrite_pcnt (off : Nat) (v : Byte) (s : State) : (memWrite off v s).pcnt = s.pcnt := rfl
@[simp] theorem memWrite_icnt (off : Nat) (v : Byte) (s : State) : (memWrite off v s).icnt = s.icnt := rfl
@[simp] theorem memWrite_op (off : Nat) (v : Byte) (s : State) : (memWrite off v s).op = s.op := rfl
@[simp] theorem memWrite_unit (off : Nat) (v : Byte) (s : State) : (memWrite off v s).unit = s.unit := rfl
@[simp] theorem memWrite_sector (off : Nat) (v : Byte) (s : State) : (memWrite off v s).sector = s.sector := rfl
@[simp] theorem memWrite_count (off : Nat) (v : Byte) (s : State) : (memWrite off v s).count = s.count := rfl
@[simp] theorem memWrite_query (off : Nat) (v : Byte) (s : State) : (memWrite off v s).query = s.query := rfl
@[simp] theorem memWrite_code (off : Nat) (v : Byte) (s : State) : (memWrite off v s).code = s.code := rfl
@[simp] theorem memWrite_flags (off : Nat) (v : Byte) (s : State) : (memWrite off v s).flags = s.flags := rfl
@[simp] theorem memWrite_value (off : Nat) (v : Byte) (s : State) : (memWrite off v s).value = s.value := rfl
@[simp] theorem memWrite_buf (off : Nat) (v : Byte) (s : State) : (memWrite off v s).buf = s.buf.write off v := rfl
@[simp] theorem memWrite_host (off : Nat) (v : Byte) (s : State) : (memWrite off v s).host = s.host := rfl
@[simp] theorem memWrite_card (off : Nat) (v : Byte) (s : State) : (memWrite off v s).card = s.card := rfl
@[simp] theorem memWrite_xcount (off : Nat) (v : Byte) (s : State) : (memWrite off v s).xcount = s.xcount := rfl
@[simp] theorem memWrite_log (off : Nat) (v : Byte) (s : State) : (memWrite off v s).log = .memWrite off v :: s.log := rfl
end memWriteFields

section noteMemReadFields
@[simp] theorem noteMemRead_cfg (off : Nat) (s : State) : (noteMemRead off s).cfg = s.cfg := rfl
@[simp] theorem noteMemRead_status (off : Nat) (s : State) : (noteMemRead off s).status = s.status := rfl
@[simp] theorem noteMemRead_cs (off : Nat) (s : State) : (noteMemRead off s).cs = s.cs := rfl
@[simp] theorem noteMemRead_speed (off : Nat) (s : State) : (noteMemRead off s).speed = s.speed := rfl
@[simp] theorem noteMemRead_ctype (off : Nat) (s : State) : (noteMemRead off s).ctype = s.ctype := rfl
@[simp] theorem noteMemRead_ccs (off : Nat) (s : State) : (noteMemRead off s).ccs = s.ccs := rfl
@[simp] theorem noteMemRead_phase (off : Nat) (s : State) : (noteMemRead off s).phase = s.phase := rfl
@[simp] theorem noteMemRead_idx (off : Nat) (s : State) : (noteMemRead off s).idx = s.idx := rfl
@[simp] theorem noteMemRead_arg (off : Nat) (s : State) : (noteMemRead off s).arg = s.arg := rfl
@[simp] theorem noteMemRead_crc (off : Nat) (s : State) : (noteMemRead off s).crc = s.crc := rfl
@[simp] theorem noteMemRead_resp (off : Nat) (s : State) : (noteMemRead off s).resp = s.resp := rfl
@[simp] theorem noteMemRead_trail0 (off : Nat) (s : State) : (noteMemRead off s).trail0 = s.trail0 := rfl
@[simp] theorem noteMemRead_trail1 (off : Nat) (s : State) : (noteMemRead off s).trail1 = s.trail1 := rfl
@[simp] theorem noteMemRead_trail2 (off : Nat) (s : State) : (noteMemRead off s).trail2 = s.trail2 := rfl
@[simp] theorem noteMemRead_trail3 (off : Nat) (s : State) : (noteMemRead off s).trail3 = s.trail3 := rfl
@[simp] theorem noteMemRead_sect (off : Nat) (s : State) : (noteMemRead off s).sect = s.sect := rfl
@[simp] theorem noteMemRead_sidx (off : Nat) (s : State) : (noteMemRead off s).sidx = s.sidx := rfl
@[simp] theorem noteMemRead_bcnt (off : Nat) (s : State) : (noteMemRead off s).bcnt = s.bcnt := rfl
@[simp] theorem noteMemRead_pcnt (off : Nat) (s : State) : (noteMemRead off s).pcnt = s.pcnt := rfl
@[simp] theorem noteMemRead_icnt (off : Nat) (s : State) : (noteMemRead off s).icnt = s.icnt := rfl
@[simp] theorem noteMemRead_op (off : Nat) (s : State) : (noteMemRead off s).op = s.op := rfl
@[simp] theorem noteMemRead_unit (off : Nat) (s : State) : (noteMemRead off s).unit = s.unit := rfl
@[simp] theorem noteMemRead_sector (off : Nat) (s : State) : (noteMemRead off s).sector = s.sector := rfl
@[simp] theorem noteMemRead_count (off : Nat) (s : State) : (noteMemRead off s).count = s.count := rfl
@[simp] theorem noteMemRead_query (off : Nat) (s : State) : (noteMemRead off s).query = s.query := rfl
@[simp] theorem noteMemRead_code (off : Nat) (s : State) : (noteMemRead off s).code = s.code := rfl
@[simp] theorem noteMemRead_flags (off : Nat) (s : State) : (noteMemRead off s).flags = s.flags := rfl
@[simp] theorem noteMemRead_value (off : Nat) (s : State) : (noteMemRead off s).value = s.value := rfl
@[simp] theorem noteMemRead_buf (off : Nat) (s : State) : (noteMemRead off s).buf = s.buf := rfl
@[simp] theorem noteMemRead_host (off : Nat) (s : State) : (noteMemRead off s).host = s.host := rfl
@[simp] theorem noteMemRead_card (off : Nat) (s : State) : (noteMemRead off s).card = s.card := rfl
@[simp] theorem noteMemRead_xcount (off : Nat) (s : State) : (noteMemRead off s).xcount = s.xcount := rfl
@[simp] theorem noteMemRead_log (off : Nat) (s : State) : (noteMemRead off s).log = .memRead off (s.buf.read off) :: s.log := rfl
end noteMemReadFields

section setNoinitFields
@[simp] theorem setNoinit_cfg (s : State) : (setNoinit s).cfg = s.cfg := rfl
@[simp] theorem setNoinit_status (s : State) : (setNoinit s).status = s.status ||| 0x01#8 := rfl
@[simp] theorem setNoinit_cs (s : State) : (setNoinit s).cs = s.cs := rfl
@[simp] theorem setNoinit_speed (s : State) : (setNoinit s).speed = s.speed := rfl
@[simp] theorem setNoinit_ctype (s : State) : (setNoinit s).ctype = s.ctype := rfl
@[simp] theorem setNoinit_ccs (s : State) : (setNoinit s).ccs = s.ccs := rfl
@[simp] theorem setNoinit_phase (s : State) : (setNoinit s).phase = s.phase := rfl
@[simp] theorem setNoinit_idx (s : State) : (setNoinit s).idx = s.idx := rfl
@[simp] theorem setNoinit_arg (s : State) : (setNoinit s).arg = s.arg := rfl
@[simp] theorem setNoinit_crc (s : State) : (setNoinit s).crc = s.crc := rfl
@[simp] theorem setNoinit_resp (s : State) : (setNoinit s).resp = s.resp := rfl
@[simp] theorem setNoinit_trail0 (s : State) : (setNoinit s).trail0 = s.trail0 := rfl
@[simp] theorem setNoinit_trail1 (s : State) : (setNoinit s).trail1 = s.trail1 := rfl
@[simp] theorem setNoinit_trail2 (s : State) : (setNoinit s).trail2 = s.trail2 := rfl
@[simp] theorem setNoinit_trail3 (s : State) : (setNoinit s).trail3 = s.trail3 := rfl
@[simp] theorem setNoinit_sect (s : State) : (setNoinit s).sect = s.sect := rfl
@[simp] theorem setNoinit_sidx (s : State) : (setNoinit s).sidx = s.sidx := rfl
@[simp] theorem setNoinit_bcnt (s : State) : (setNoinit s).bcnt = s.bcnt := rfl
@[simp] theorem setNoinit_pcnt (s : State) : (setNoinit s).pcnt = s.pcnt := rfl
@[simp] theorem setNoinit_icnt (s : State) : (setNoinit s).icnt = s.icnt := rfl
@[simp] theorem setNoinit_op (s : State) : (setNoinit s).op = s.op := rfl
@[simp] theorem setNoinit_unit (s : State) : (setNoinit s).unit = s.unit := rfl
@[simp] theorem setNoinit_sector (s : State) : (setNoinit s).sector = s.sector := rfl
@[simp] theorem setNoinit_count (s : State) : (setNoinit s).count = s.count := rfl
@[simp] theorem setNoinit_query (s : State) : (setNoinit s).query = s.query := rfl
@[simp] theorem setNoinit_code (s : State) : (setNoinit s).code = s.code := rfl
@[simp] theorem setNoinit_flags (s : State) : (setNoinit s).flags = s.flags := rfl
@[simp] theorem setNoinit_value (s : State) : (setNoinit s).value = s.value := rfl
@[simp] theorem setNoinit_buf (s : State) : (setNoinit s).buf = s.buf := rfl
@[simp] theorem setNoinit_host (s : State) : (setNoinit s).host = s.host := rfl
@[simp] theorem setNoinit_card (s : State) : (setNoinit s).card = s.card := rfl
@[simp] theorem setNoinit_xcount (s : State) : (setNoinit s).xcount = s.xcount := rfl
@[simp] theorem setNoinit_log (s : State) : (setNoinit s).log = s.log := rfl
end setNoinitFields

section clearNoinitFields
@[simp] theorem clearNoinit_cfg (s : State) : (clearNoinit s).cfg = s.cfg := rfl
@[simp] theorem clearNoinit_status (s : State) : (clearNoinit s).status = s.status &&& 0xFE#8 := rfl
@[simp] theorem clearNoinit_cs (s : State) : (clearNoinit s).cs = s.cs := rfl
@[simp] theorem clearNoinit_speed (s : State) : (clearNoinit s).speed = s.speed := rfl
@[simp] theorem clearNoinit_ctype (s : State) : (clearNoinit s).ctype = s.ctype := rfl
@[simp] theorem clearNoinit_ccs (s : State) : (clearNoinit s).ccs = s.ccs := rfl
@[simp] theorem clearNoinit_phase (s : State) : (clearNoinit s).phase = s.phase := rfl
@[simp] theorem clearNoinit_idx (s : State) : (clearNoinit s).idx = s.idx := rfl
@[simp] theorem clearNoinit_arg (s : State) : (clearNoinit s).arg = s.arg := rfl
@[simp] theorem clearNoinit_crc (s : State) : (clearNoinit s).crc = s.crc := rfl
@[simp] theorem clearNoinit_resp (s : State) : (clearNoinit s).resp = s.resp := rfl
@[simp] theorem clearNoinit_trail0 (s : State) : (clearNoinit s).trail0 = s.trail0 := rfl
@[simp] theorem clearNoinit_trail1 (s : State) : (clearNoinit s).trail1 = s.trail1 := rfl
@[simp] theorem clearNoinit_trail2 (s : State) : (clearNoinit s).trail2 = s.trail2 := rfl
@[simp] theorem clearNoinit_trail3 (s : State) : (clearNoinit s).trail3 = s.trail3 := rfl
@[simp] theorem clearNoinit_sect (s : State) : (clearNoinit s).sect = s.sect := rfl
@[simp] theorem clearNoinit_sidx (s : State) : (clearNoinit s).sidx = s.sidx := rfl
@[simp] theorem clearNoinit_bcnt (s : State) : (clearNoinit s).bcnt = s.bcnt := rfl
@[simp] theorem clearNoinit_pcnt (s : State) : (clearNoinit s).pcnt = s.pcnt := rfl
@[simp] theorem clearNoinit_icnt (s : State) : (clearNoinit s).icnt = s.icnt := rfl
@[simp] theorem clearNoinit_op (s : State) : (clearNoinit s).op = s.op := rfl
@[simp] theorem clearNoinit_unit (s : State) : (clearNoinit s).unit = s.unit := rfl
@[simp] theorem clearNoinit_sector (s : State) : (clearNoinit s).sector = s.sector := rfl
@[simp] theorem clearNoinit_count (s : State) : (clearNoinit s).count = s.count := rfl
@[simp] theorem clearNoinit_query (s : State) : (clearNoinit s).query = s.query := rfl
@[simp] theorem clearNoinit_code (s : State) : (clearNoinit s).code = s.code := rfl
@[simp] theorem clearNoinit_flags (s : State) : (clearNoinit s).flags = s.flags := rfl
@[simp] theorem clearNoinit_value (s : State) : (clearNoinit s).value = s.value := rfl
@[simp] theorem clearNoinit_buf (s : State) : (clearNoinit s).buf = s.buf := rfl
@[simp] theorem clearNoinit_host (s : State) : (clearNoinit s).host = s.host := rfl
@[simp] theorem clearNoinit_card (s : State) : (clearNoinit s).card = s.card := rfl
@[simp] theorem clearNoinit_xcount (s : State) : (clearNoinit s).xcount = s.xcount := rfl
@[simp] theorem clearNoinit_log (s : State) : (clearNoinit s).log = s.log := rfl
end clearNoinitFields

section respondFields
@[simp] theorem respond_cfg (c : BitVec 3) (v : Word) (u : Byte) (s : State) : (respond c v u s).cfg = s.cfg := rfl
@[simp] theorem respond_status (c : BitVec 3) (v : Word) (u : Byte) (s : State) : (respond c v u s).status = s.status := rfl
@[simp] theorem respond_cs (c : BitVec 3) (v : Word) (u : Byte) (s : State) : (respond c v u s).cs = s.cs := rfl
@[simp] theorem respond_speed (c : BitVec 3) (v : Word) (u : Byte) (s : State) : (respond c v u s).speed = s.speed := rfl
@[simp] theorem respond_ctype (c : BitVec 3) (v : Word) (u : Byte) (s : State) : (respond c v u s).ctype = s.ctype := rfl
@[simp] theorem respond_ccs (c : BitVec 3) (v : Word) (u : Byte) (s : State) : (respond c v u s).ccs = s.ccs := rfl
@[simp] theorem respond_phase (c : BitVec 3) (v : Word) (u : Byte) (s : State) : (respond c v u s).phase = .idle := rfl
@[simp] theorem respond_idx (c : BitVec 3) (v : Word) (u : Byte) (s : State) : (respond c v u s).idx = s.idx := rfl
@[simp] theorem respond_arg (c : BitVec 3) (v : Word) (u : Byte) (s : State) : (respond c v u s).arg = s.arg := rfl
@[simp] theorem respond_crc (c : BitVec 3) (v : Word) (u : Byte) (s : State) : (respond c v u s).crc = s.crc := rfl
@[simp] theorem respond_resp (c : BitVec 3) (v : Word) (u : Byte) (s : State) : (respond c v u s).resp = s.resp := rfl
@[simp] theorem respond_trail0 (c : BitVec 3) (v : Word) (u : Byte) (s : State) : (respond c v u s).trail0 = s.trail0 := rfl
@[simp] theorem respond_trail1 (c : BitVec 3) (v : Word) (u : Byte) (s : State) : (respond c v u s).trail1 = s.trail1 := rfl
@[simp] theorem respond_trail2 (c : BitVec 3) (v : Word) (u : Byte) (s : State) : (respond c v u s).trail2 = s.trail2 := rfl
@[simp] theorem respond_trail3 (c : BitVec 3) (v : Word) (u : Byte) (s : State) : (respond c v u s).trail3 = s.trail3 := rfl
@[simp] theorem respond_sect (c : BitVec 3) (v : Word) (u : Byte) (s : State) : (respond c v u s).sect = s.sect := rfl
@[simp] theorem respond_sidx (c : BitVec 3) (v : Word) (u : Byte) (s : State) : (respond c v u s).sidx = s.sidx := rfl
@[simp] theorem respond_bcnt (c : BitVec 3) (v : Word) (u : Byte) (s : State) : (respond c v u s).bcnt = s.bcnt := rfl
@[simp] theorem respond_pcnt (c : BitVec 3) (v : Word) (u : Byte) (s : State) : (respond c v u s).pcnt = s.pcnt := rfl
@[simp] theorem respond_icnt (c : BitVec 3) (v : Word) (u : Byte) (s : State) : (respond c v u s).icnt = s.icnt := rfl
@[simp] theorem respond_op (c : BitVec 3) (v : Word) (u : Byte) (s : State) : (respond c v u s).op = s.op := rfl
@[simp] theorem respond_unit (c : BitVec 3) (v : Word) (u : Byte) (s : State) : (respond c v u s).unit = s.unit := rfl
@[simp] theorem respond_sector (c : BitVec 3) (v : Word) (u : Byte) (s : State) : (respond c v u s).sector = s.sector := rfl
@[simp] theorem respond_count (c : BitVec 3) (v : Word) (u : Byte) (s : State) : (respond c v u s).count = s.count := rfl
@[simp] theorem respond_query (c : BitVec 3) (v : Word) (u : Byte) (s : State) : (respond c v u s).query = s.query := rfl
@[simp] theorem respond_code (c : BitVec 3) (v : Word) (u : Byte) (s : State) : (respond c v u s).code = c := rfl
@[simp] theorem respond_flags (c : BitVec 3) (v : Word) (u : Byte) (s : State) : (respond c v u s).flags = flagsFor u s := rfl
@[simp] theorem respond_value (c : BitVec 3) (v : Word) (u : Byte) (s : State) : (respond c v u s).value = v := rfl
@[simp] theorem respond_buf (c : BitVec 3) (v : Word) (u : Byte) (s : State) : (respond c v u s).buf = s.buf := rfl
@[simp] theorem respond_host (c : BitVec 3) (v : Word) (u : Byte) (s : State) : (respond c v u s).host = s.host := rfl
@[simp] theorem respond_card (c : BitVec 3) (v : Word) (u : Byte) (s : State) : (respond c v u s).card = s.card := rfl
@[simp] theorem respond_xcount (c : BitVec 3) (v : Word) (u : Byte) (s : State) : (respond c v u s).xcount = s.xcount := rfl
@[simp] theorem respond_log (c : BitVec 3) (v : Word) (u : Byte) (s : State) : (respond c v u s).log = s.log := rfl
end respondFields

section loadDescriptorFields
@[simp] theorem loadDescriptor_cfg (i : BitVec 6) (a : Word) (s : State) : (loadDescriptor i a s).cfg = s.cfg := rfl
@[simp] theorem loadDescriptor_status (i : BitVec 6) (a : Word) (s : State) : (loadDescriptor i a s).status = s.status := rfl
@[simp] theorem loadDescriptor_cs (i : BitVec 6) (a : Word) (s : State) : (loadDescriptor i a s).cs = s.cs := rfl
@[simp] theorem loadDescriptor_speed (i : BitVec 6) (a : Word) (s : State) : (loadDescriptor i a s).speed = s.speed := rfl
@[simp] theorem loadDescriptor_ctype (i : BitVec 6) (a : Word) (s : State) : (loadDescriptor i a s).ctype = s.ctype := rfl
@[simp] theorem loadDescriptor_ccs (i : BitVec 6) (a : Word) (s : State) : (loadDescriptor i a s).ccs = s.ccs := rfl
@[simp] theorem loadDescriptor_phase (i : BitVec 6) (a : Word) (s : State) : (loadDescriptor i a s).phase = s.phase := rfl
@[simp] theorem loadDescriptor_idx (i : BitVec 6) (a : Word) (s : State) : (loadDescriptor i a s).idx = i := rfl
@[simp] theorem loadDescriptor_arg (i : BitVec 6) (a : Word) (s : State) : (loadDescriptor i a s).arg = a := rfl
@[simp] theorem loadDescriptor_crc (i : BitVec 6) (a : Word) (s : State) : (loadDescriptor i a s).crc = crcFor i := rfl
@[simp] theorem loadDescriptor_resp (i : BitVec 6) (a : Word) (s : State) : (loadDescriptor i a s).resp = 0xFF := rfl
@[simp] theorem loadDescriptor_trail0 (i : BitVec 6) (a : Word) (s : State) : (loadDescriptor i a s).trail0 = s.trail0 := rfl
@[simp] theorem loadDescriptor_trail1 (i : BitVec 6) (a : Word) (s : State) : (loadDescriptor i a s).trail1 = s.trail1 := rfl
@[simp] theorem loadDescriptor_trail2 (i : BitVec 6) (a : Word) (s : State) : (loadDescriptor i a s).trail2 = s.trail2 := rfl
@[simp] theorem loadDescriptor_trail3 (i : BitVec 6) (a : Word) (s : State) : (loadDescriptor i a s).trail3 = s.trail3 := rfl
@[simp] theorem loadDescriptor_sect (i : BitVec 6) (a : Word) (s : State) : (loadDescriptor i a s).sect = s.sect := rfl
@[simp] theorem loadDescriptor_sidx (i : BitVec 6) (a : Word) (s : State) : (loadDescriptor i a s).sidx = s.sidx := rfl
@[simp] theorem loadDescriptor_bcnt (i : BitVec 6) (a : Word) (s : State) : (loadDescriptor i a s).bcnt = s.bcnt := rfl
@[simp] theorem loadDescriptor_pcnt (i : BitVec 6) (a : Word) (s : State) : (loadDescriptor i a s).pcnt = 0 := rfl
@[simp] theorem loadDescriptor_icnt (i : BitVec 6) (a : Word) (s : State) : (loadDescriptor i a s).icnt = s.icnt := rfl
@[simp] theorem loadDescriptor_op (i : BitVec 6) (a : Word) (s : State) : (loadDescriptor i a s).op = s.op := rfl
@[simp] theorem loadDescriptor_unit (i : BitVec 6) (a : Word) (s : State) : (loadDescriptor i a s).unit = s.unit := rfl
@[simp] theorem loadDescriptor_sector (i : BitVec 6) (a : Word) (s : State) : (loadDescriptor i a s).sector = s.sector := rfl
@[simp] theorem loadDescriptor_count (i : BitVec 6) (a : Word) (s : State) : (loadDescriptor i a s).count = s.count := rfl
@[simp] theorem loadDescriptor_query (i : BitVec 6) (a : Word) (s : State) : (loadDescriptor i a s).query = s.query := rfl
@[simp] theorem loadDescriptor_code (i : BitVec 6) (a : Word) (s : State) : (loadDescriptor i a s).code = s.code := rfl
@[simp] theorem loadDescriptor_flags (i : BitVec 6) (a : Word) (s : State) : (loadDescriptor i a s).flags = s.flags := rfl
@[simp] theorem loadDescriptor_value (i : BitVec 6) (a : Word) (s : State) : (loadDescriptor i a s).value = s.value := rfl
@[simp] theorem loadDescriptor_buf (i : BitVec 6) (a : Word) (s : State) : (loadDescriptor i a s).buf = s.buf := rfl
@[simp] theorem loadDescriptor_host (i : BitVec 6) (a : Word) (s : State) : (loadDescriptor i a s).host = s.host := rfl
@[simp] theorem loadDescriptor_card (i : BitVec 6) (a : Word) (s : State) : (loadDescriptor i a s).card = s.card := rfl
@[simp] theorem loadDescriptor_xcount (i : BitVec 6) (a : Word) (s : State) : (loadDescriptor i a s).xcount = s.xcount := rfl
@[simp] theorem loadDescriptor_log (i : BitVec 6) (a : Word) (s : State) : (loadDescriptor i a s).log = s.log := rfl
end loadDescriptorFields

section pollOnceFields
@[simp] theorem pollOnce_cfg (s : State) : (pollOnce s).cfg = s.cfg := rfl
@[simp] theorem pollOnce_status (s : State) : (pollOnce s).status = s.status := rfl
@[simp] theorem pollOnce_cs (s : State) : (pollOnce s).cs = s.cs := rfl
@[simp] theorem pollOnce_speed (s : State) : (pollOnce s).speed = s.speed := rfl
@[simp] theorem pollOnce_ctype (s : State) : (pollOnce s).ctype = s.ctype := rfl
@[simp] theorem pollOnce_ccs (s : State) : (pollOnce s).ccs = s.ccs := rfl
@[simp] theorem pollOnce_phase (s : State) : (pollOnce s).phase = s.phase := rfl
@[simp] theorem pollOnce_idx (s : State) : (pollOnce s).idx = s.idx := rfl
@[simp] theorem pollOnce_arg (s : State) : (pollOnce s).arg = s.arg := rfl
@[simp] theorem pollOnce_crc (s : State) : (pollOnce s).crc = s.crc := rfl
@[simp] theorem pollOnce_resp (s : State) : (pollOnce s).resp = rx s := rfl
@[simp] theorem pollOnce_trail0 (s : State) : (pollOnce s).trail0 = s.trail0 := rfl
@[simp] theorem pollOnce_trail1 (s : State) : (pollOnce s).trail1 = s.trail1 := rfl
@[simp] theorem pollOnce_trail2 (s : State) : (pollOnce s).trail2 = s.trail2 := rfl
@[simp] theorem pollOnce_trail3 (s : State) : (pollOnce s).trail3 = s.trail3 := rfl
@[simp] theorem pollOnce_sect (s : State) : (pollOnce s).sect = s.sect := rfl
@[simp] theorem pollOnce_sidx (s : State) : (pollOnce s).sidx = s.sidx := rfl
@[simp] theorem pollOnce_bcnt (s : State) : (pollOnce s).bcnt = s.bcnt := rfl
@[simp] theorem pollOnce_pcnt (s : State) : (pollOnce s).pcnt = s.pcnt + 1 := rfl
@[simp] theorem pollOnce_icnt (s : State) : (pollOnce s).icnt = s.icnt := rfl
@[simp] theorem pollOnce_op (s : State) : (pollOnce s).op = s.op := rfl
@[simp] theorem pollOnce_unit (s : State) : (pollOnce s).unit = s.unit := rfl
@[simp] theorem pollOnce_sector (s : State) : (pollOnce s).sector = s.sector := rfl
@[simp] theorem pollOnce_count (s : State) : (pollOnce s).count = s.count := rfl
@[simp] theorem pollOnce_query (s : State) : (pollOnce s).query = s.query := rfl
@[simp] theorem pollOnce_code (s : State) : (pollOnce s).code = s.code := rfl
@[simp] theorem pollOnce_flags (s : State) : (pollOnce s).flags = s.flags := rfl
@[simp] theorem pollOnce_value (s : State) : (pollOnce s).value = s.value := rfl
@[simp] theorem pollOnce_buf (s : State) : (pollOnce s).buf = s.buf := rfl
@[simp] theorem pollOnce_host (s : State) : (pollOnce s).host = s.host := rfl
@[simp] theorem pollOnce_card (s : State) : (pollOnce s).card = s.card.tail := rfl
@[simp] theorem pollOnce_xcount (s : State) : (pollOnce s).xcount = s.xcount + 1 := rfl
@[simp] theorem pollOnce_log (s : State) : (pollOnce s).log = .x idleByte (rx s) :: s.log := rfl
end pollOnceFields

section waitOnceFields
@[simp] theorem waitOnce_cfg (s : State) : (waitOnce s).cfg = s.cfg := rfl
@[simp] theorem waitOnce_status (s : State) : (waitOnce s).status = s.status := rfl
@[simp] theorem waitOnce_cs (s : State) : (waitOnce s).cs = s.cs := rfl
@[simp] theorem waitOnce_speed (s : State) : (waitOnce s).speed = s.speed := rfl
@[simp] theorem waitOnce_ctype (s : State) : (waitOnce s).ctype = s.ctype := rfl
@[simp] theorem waitOnce_ccs (s : State) : (waitOnce s).ccs = s.ccs := rfl
@[simp] theorem waitOnce_phase (s : State) : (waitOnce s).phase = s.phase := rfl
@[simp] theorem waitOnce_idx (s : State) : (waitOnce s).idx = s.idx := rfl
@[simp] theorem waitOnce_arg (s : State) : (waitOnce s).arg = s.arg := rfl
@[simp] theorem waitOnce_crc (s : State) : (waitOnce s).crc = s.crc := rfl
@[simp] theorem waitOnce_resp (s : State) : (waitOnce s).resp = s.resp := rfl
@[simp] theorem waitOnce_trail0 (s : State) : (waitOnce s).trail0 = s.trail0 := rfl
@[simp] theorem waitOnce_trail1 (s : State) : (waitOnce s).trail1 = s.trail1 := rfl
@[simp] theorem waitOnce_trail2 (s : State) : (waitOnce s).trail2 = s.trail2 := rfl
@[simp] theorem waitOnce_trail3 (s : State) : (waitOnce s).trail3 = s.trail3 := rfl
@[simp] theorem waitOnce_sect (s : State) : (waitOnce s).sect = s.sect := rfl
@[simp] theorem waitOnce_sidx (s : State) : (waitOnce s).sidx = s.sidx := rfl
@[simp] theorem waitOnce_bcnt (s : State) : (waitOnce s).bcnt = s.bcnt := rfl
@[simp] theorem waitOnce_pcnt (s : State) : (waitOnce s).pcnt = s.pcnt + 1 := rfl
@[simp] theorem waitOnce_icnt (s : State) : (waitOnce s).icnt = s.icnt := rfl
@[simp] theorem waitOnce_op (s : State) : (waitOnce s).op = s.op := rfl
@[simp] theorem waitOnce_unit (s : State) : (waitOnce s).unit = s.unit := rfl
@[simp] theorem waitOnce_sector (s : State) : (waitOnce s).sector = s.sector := rfl
@[simp] theorem waitOnce_count (s : State) : (waitOnce s).count = s.count := rfl
@[simp] theorem waitOnce_query (s : State) : (waitOnce s).query = s.query := rfl
@[simp] theorem waitOnce_code (s : State) : (waitOnce s).code = s.code := rfl
@[simp] theorem waitOnce_flags (s : State) : (waitOnce s).flags = s.flags := rfl
@[simp] theorem waitOnce_value (s : State) : (waitOnce s).value = s.value := rfl
@[simp] theorem waitOnce_buf (s : State) : (waitOnce s).buf = s.buf := rfl
@[simp] theorem waitOnce_host (s : State) : (waitOnce s).host = s.host := rfl
@[simp] theorem waitOnce_card (s : State) : (waitOnce s).card = s.card.tail := rfl
@[simp] theorem waitOnce_xcount (s : State) : (waitOnce s).xcount = s.xcount + 1 := rfl
@[simp] theorem waitOnce_log (s : State) : (waitOnce s).log = .x idleByte (rx s) :: s.log := rfl
end waitOnceFields

section sampleFields
@[simp] theorem sample_cfg (c : HostCall) (rest : List HostCall) (s : State) : (sample c rest s).cfg = s.cfg := rfl
@[simp] theorem sample_status (c : HostCall) (rest : List HostCall) (s : State) : (sample c rest s).status = s.status := rfl
@[simp] theorem sample_cs (c : HostCall) (rest : List HostCall) (s : State) : (sample c rest s).cs = s.cs := rfl
@[simp] theorem sample_speed (c : HostCall) (rest : List HostCall) (s : State) : (sample c rest s).speed = s.speed := rfl
@[simp] theorem sample_ctype (c : HostCall) (rest : List HostCall) (s : State) : (sample c rest s).ctype = s.ctype := rfl
@[simp] theorem sample_ccs (c : HostCall) (rest : List HostCall) (s : State) : (sample c rest s).ccs = s.ccs := rfl
@[simp] theorem sample_phase (c : HostCall) (rest : List HostCall) (s : State) : (sample c rest s).phase = s.phase := rfl
@[simp] theorem sample_idx (c : HostCall) (rest : List HostCall) (s : State) : (sample c rest s).idx = s.idx := rfl
@[simp] theorem sample_arg (c : HostCall) (rest : List HostCall) (s : State) : (sample c rest s).arg = s.arg := rfl
@[simp] theorem sample_crc (c : HostCall) (rest : List HostCall) (s : State) : (sample c rest s).crc = s.crc := rfl
@[simp] theorem sample_resp (c : HostCall) (rest : List HostCall) (s : State) : (sample c rest s).resp = s.resp := rfl
@[simp] theorem sample_trail0 (c : HostCall) (rest : List HostCall) (s : State) : (sample c rest s).trail0 = s.trail0 := rfl
@[simp] theorem sample_trail1 (c : HostCall) (rest : List HostCall) (s : State) : (sample c rest s).trail1 = s.trail1 := rfl
@[simp] theorem sample_trail2 (c : HostCall) (rest : List HostCall) (s : State) : (sample c rest s).trail2 = s.trail2 := rfl
@[simp] theorem sample_trail3 (c : HostCall) (rest : List HostCall) (s : State) : (sample c rest s).trail3 = s.trail3 := rfl
@[simp] theorem sample_sect (c : HostCall) (rest : List HostCall) (s : State) : (sample c rest s).sect = s.sect := rfl
@[simp] theorem sample_sidx (c : HostCall) (rest : List HostCall) (s : State) : (sample c rest s).sidx = s.sidx := rfl
@[simp] theorem sample_bcnt (c : HostCall) (rest : List HostCall) (s : State) : (sample c rest s).bcnt = s.bcnt := rfl
@[simp] theorem sample_pcnt (c : HostCall) (rest : List HostCall) (s : State) : (sample c rest s).pcnt = s.pcnt := rfl
@[simp] theorem sample_icnt (c : HostCall) (rest : List HostCall) (s : State) : (sample c rest s).icnt = s.icnt := rfl
@[simp] theorem sample_op (c : HostCall) (rest : List HostCall) (s : State) : (sample c rest s).op = c.req.op := rfl
@[simp] theorem sample_unit (c : HostCall) (rest : List HostCall) (s : State) : (sample c rest s).unit = c.req.unit := rfl
@[simp] theorem sample_sector (c : HostCall) (rest : List HostCall) (s : State) : (sample c rest s).sector = c.req.sector := rfl
@[simp] theorem sample_count (c : HostCall) (rest : List HostCall) (s : State) : (sample c rest s).count = c.req.count := rfl
@[simp] theorem sample_query (c : HostCall) (rest : List HostCall) (s : State) : (sample c rest s).query = c.req.query := rfl
@[simp] theorem sample_code (c : HostCall) (rest : List HostCall) (s : State) : (sample c rest s).code = s.code := rfl
@[simp] theorem sample_flags (c : HostCall) (rest : List HostCall) (s : State) : (sample c rest s).flags = s.flags := rfl
@[simp] theorem sample_value (c : HostCall) (rest : List HostCall) (s : State) : (sample c rest s).value = s.value := rfl
@[simp] theorem sample_buf (c : HostCall) (rest : List HostCall) (s : State) : (sample c rest s).buf = c.buf.getD s.buf := rfl
@[simp] theorem sample_host (c : HostCall) (rest : List HostCall) (s : State) : (sample c rest s).host = rest := rfl
@[simp] theorem sample_card (c : HostCall) (rest : List HostCall) (s : State) : (sample c rest s).card = s.card := rfl
@[simp] theorem sample_xcount (c : HostCall) (rest : List HostCall) (s : State) : (sample c rest s).xcount = s.xcount := rfl
@[simp] theorem sample_log (c : HostCall) (rest : List HostCall) (s : State) : (sample c rest s).log = s.log := rfl
end sampleFields

end Sys2Proof.Machine
end

