-- ==== Sys2Proof/Laws/Ops.lean ====
section
/-! SUPPORT. One lemma per shared operation that says what it can do. -/

namespace Sys2Proof.Machine

/-! ### Primitives -/

/-- With a scripted byte the exchange receives it. -/
theorem rx_cons {s : State} {b : Byte} {bs : List Byte} (h : s.card = b :: bs) : rx s = b := by simp [rx, h]

/-- Past the script the exchange receives the free value. -/
theorem rx_nil {s : State} (h : s.card = []) : rx s = Config.freeByte s.xcount := by simp [rx, h]

/-- The received byte depends only on the card's script and the exchange count. -/
theorem rx_congr {s t : State} (hc : t.card = s.card) (hx : t.xcount = s.xcount) : rx t = rx s := by simp only [rx, hc, hx]

theorem deselect_spec (s : State) :
    deselect s = { s with cs := 1, card := s.card.tail, xcount := s.xcount + 1, log := .x idleByte (rx s) :: .sel 1 :: s.log } := rfl

/-- The exchanges of a frame write nothing but the input position and the log. -/
theorem sendFrame_spec (s : State) :
    sendFrame s = { s with card := (sendFrame s).card, xcount := s.xcount + 6, log := (sendFrame s).log } := by
  apply State.ext <;> simp [sendFrame]

theorem raiseError_spec (e : ErrorKind) (u : Byte) (s : State) :
    raiseError e u s = { s with code := errorCode e, flags := flagsFor u s, value := 0, phase := .idle } := rfl

theorem errorExit_spec (e : ErrorKind) (u : Byte) (s : State) :
    errorExit e u s = { s with cs := 1, card := s.card.tail, xcount := s.xcount + 1,
                               log := .x idleByte (rx s) :: .sel 1 :: s.log, code := errorCode e, flags := flagsFor u s, value := 0,
                               phase := .idle } := rfl

theorem readTrail_spec (s : State) :
    readTrail s = { s with trail0 := (readTrail s).trail0, trail1 := (readTrail s).trail1, trail2 := (readTrail s).trail2,
                           trail3 := (readTrail s).trail3, card := (readTrail s).card, xcount := s.xcount + 4,
                           log := (readTrail s).log } := by
  apply State.ext <;> simp [readTrail, readTrail0, readTrail1, readTrail2, readTrail3]

/-- `ReadTrail` on four scripted bytes. -/
theorem readTrail_heard {s : State} {a b c d : Byte} {rest : List Byte} (h : s.card = a :: b :: c :: d :: rest) :
    readTrail s = afterTrail a b c d rest s := by
  apply State.ext <;> simp [readTrail, readTrail0, readTrail1, readTrail2, readTrail3, rx, h, afterTrail, listen]

/-! ### Response polling and SendCommand -/

/-- Response polling writes RESP, PCNT, CS, the input position and the log, nothing else. -/
theorem pollResponse_frame (n : Nat) (s : State) :
    pollResponse n s = { s with resp := (pollResponse n s).resp, pcnt := (pollResponse n s).pcnt, cs := (pollResponse n s).cs,
                                card := (pollResponse n s).card, xcount := (pollResponse n s).xcount,
                                log := (pollResponse n s).log } := by
  induction n generalizing s with
  | zero => rfl
  | succ n ih =>
    by_cases h : isFiller (pollOnce s).resp = true
    · rw [pollResponse, if_pos h, ih]; rfl
    · rw [pollResponse, if_neg h]; rfl

/-- CS on return from polling a selected card: high exactly when the byte returned is filler (R147), provided RESP holds a filler
before the first poll. -/
theorem pollResponse_line (n : Nat) (s : State) (hcs : s.cs = 0) (hr : isFiller s.resp = true) :
    (pollResponse n s).cs = if isFiller (pollResponse n s).resp then 1 else 0 := by
  induction n generalizing s with
  | zero => simp [pollResponse, deselect_spec, hr]
  | succ n ih =>
    by_cases h : isFiller (pollOnce s).resp = true
    · rw [pollResponse, if_pos h]; exact ih _ (by simpa using hcs) h
    · rw [pollResponse, if_neg h, if_neg h]; simpa using hcs

theorem pollResponse_xcount (n : Nat) (s : State) :
    s.xcount + 1 ≤ (pollResponse n s).xcount ∧ (pollResponse n s).xcount ≤ s.xcount + n + 1 := by
  induction n generalizing s with
  | zero => simp [pollResponse, deselect_spec]
  | succ n ih =>
    by_cases h : isFiller (pollOnce s).resp = true
    · rw [pollResponse, if_pos h]; have := ih (pollOnce s); simp at this; omega
    · rw [pollResponse, if_neg h]; simp

/-- Polling a card that answers: fillers, then a response within the bound. -/
theorem pollResponse_answered (fil : List Byte) (r : Byte) (rest : List Byte) (n : Nat) (s : State)
    (hf : fil.all isFiller = true) (hn : fil.length < n) (hr : isFiller r = false) (h : s.card = fil ++ r :: rest) :
    pollResponse n s = { s with resp := r, pcnt := s.pcnt + fil.length + 1, card := rest, xcount := s.xcount + fil.length + 1,
                                log := (listen (fil ++ [r])).reverse ++ s.log } := by
  induction fil generalizing n s with
  | nil =>
    obtain ⟨n, rfl⟩ : ∃ k, n = k + 1 := ⟨n - 1, by simp at hn; omega⟩
    have hx : rx s = r := rx_cons (by simpa using h)
    have hp : (pollOnce s).resp = r := by simp [hx]
    rw [pollResponse, hp, if_neg (by simp [hr])]
    apply State.ext <;> simp [h, hx, listen]
  | cons b fil ih =>
    obtain ⟨n, rfl⟩ : ∃ k, n = k + 1 := ⟨n - 1, by simp at hn; omega⟩
    have hx : rx s = b := rx_cons (by simpa using h)
    have hp : (pollOnce s).resp = b := by simp [hx]
    simp only [List.all_cons, Bool.and_eq_true] at hf
    rw [pollResponse, hp, if_pos hf.1, ih n (pollOnce s) hf.2 (by simp at hn; omega) (by simp [h])]
    apply State.ext <;> simp [hx, listen] <;> omega

/-- Polling a card that stays silent: only fillers up to the bound, then the timeout path (R146). -/
theorem pollResponse_silent (fil : List Byte) (last : Byte) (rest : List Byte) (s : State)
    (hf : fil.all isFiller = true) (h : s.card = fil ++ last :: rest) :
    pollResponse fil.length s =
      { s with resp := fil.getLastD s.resp, pcnt := s.pcnt + fil.length, cs := 1, card := rest, xcount := s.xcount + fil.length + 1,
               log := (listen fil ++ deselectEvents last).reverse ++ s.log } := by
  induction fil generalizing s with
  | nil =>
    have hx : rx s = last := rx_cons (by simpa using h)
    rw [List.length_nil, pollResponse, deselect_spec]
    apply State.ext <;> simp [h, hx, listen, deselectEvents]
  | cons b fil ih =>
    have hx : rx s = b := rx_cons (by simpa using h)
    have hp : (pollOnce s).resp = b := by simp [hx]
    simp only [List.all_cons, Bool.and_eq_true] at hf
    rw [List.length_cons, pollResponse, hp, if_pos hf.1, ih (pollOnce s) hf.2 (by simp [h])]
    apply State.ext <;> first | (simp [hx, listen] <;> omega) | simp [hx, List.getLast?_cons]

/-- `SendCommand` writes the descriptor, RESP, PCNT, CS, the input position and the log, nothing else (R143). -/
theorem sendCommand_frame (i : BitVec 6) (a : Word) (n : Nat) (s : State) :
    sendCommand i a n s =
      { s with idx := i, arg := a, crc := crcFor i, resp := (sendCommand i a n s).resp, pcnt := (sendCommand i a n s).pcnt,
               cs := (sendCommand i a n s).cs, card := (sendCommand i a n s).card, xcount := (sendCommand i a n s).xcount,
               log := (sendCommand i a n s).log } := by
  rw [sendCommand, pollResponse_frame]
  apply State.ext <;> simp [sendFrame, deselect]

@[simp] theorem isFiller_ff : isFiller 255#8 = true := by decide

/-! ### What SendCommand and ReadTrail leave unchanged, field by field -/

@[simp] theorem pollResponse_cfg (n : Nat) (s : State) : (pollResponse n s).cfg = s.cfg := by
  rw [pollResponse_frame n s]
@[simp] theorem pollResponse_status (n : Nat) (s : State) : (pollResponse n s).status = s.status := by
  rw [pollResponse_frame n s]
@[simp] theorem pollResponse_speed (n : Nat) (s : State) : (pollResponse n s).speed = s.speed := by
  rw [pollResponse_frame n s]
@[simp] theorem pollResponse_ctype (n : Nat) (s : State) : (pollResponse n s).ctype = s.ctype := by
  rw [pollResponse_frame n s]
@[simp] theorem pollResponse_ccs (n : Nat) (s : State) : (pollResponse n s).ccs = s.ccs := by
  rw [pollResponse_frame n s]
@[simp] theorem pollResponse_phase (n : Nat) (s : State) : (pollResponse n s).phase = s.phase := by
  rw [pollResponse_frame n s]
@[simp] theorem pollResponse_idx (n : Nat) (s : State) : (pollResponse n s).idx = s.idx := by
  rw [pollResponse_frame n s]
@[simp] theorem pollResponse_arg (n : Nat) (s : State) : (pollResponse n s).arg = s.arg := by
  rw [pollResponse_frame n s]
@[simp] theorem pollResponse_crc (n : Nat) (s : State) : (pollResponse n s).crc = s.crc := by
  rw [pollResponse_frame n s]
@[simp] theorem pollResponse_trail0 (n : Nat) (s : State) : (pollResponse n s).trail0 = s.trail0 := by
  rw [pollResponse_frame n s]
@[simp] theorem pollResponse_trail1 (n : Nat) (s : State) : (pollResponse n s).trail1 = s.trail1 := by
  rw [pollResponse_frame n s]
@[simp] theorem pollResponse_trail2 (n : Nat) (s : State) : (pollResponse n s).trail2 = s.trail2 := by
  rw [pollResponse_frame n s]
@[simp] theorem pollResponse_trail3 (n : Nat) (s : State) : (pollResponse n s).trail3 = s.trail3 := by
  rw [pollResponse_frame n s]
@[simp] theorem pollResponse_sect (n : Nat) (s : State) : (pollResponse n s).sect = s.sect := by
  rw [pollResponse_frame n s]
@[simp] theorem pollResponse_sidx (n : Nat) (s : State) : (pollResponse n s).sidx = s.sidx := by
  rw [pollResponse_frame n s]
@[simp] theorem pollResponse_bcnt (n : Nat) (s : State) : (pollResponse n s).bcnt = s.bcnt := by
  rw [pollResponse_frame n s]
@[simp] theorem pollResponse_icnt (n : Nat) (s : State) : (pollResponse n s).icnt = s.icnt := by
  rw [pollResponse_frame n s]
@[simp] theorem pollResponse_op (n : Nat) (s : State) : (pollResponse n s).op = s.op := by
  rw [pollResponse_frame n s]
@[simp] theorem pollResponse_unit (n : Nat) (s : State) : (pollResponse n s).unit = s.unit := by
  rw [pollResponse_frame n s]
@[simp] theorem pollResponse_sector (n : Nat) (s : State) : (pollResponse n s).sector = s.sector := by
  rw [pollResponse_frame n s]
@[simp] theorem pollResponse_count (n : Nat) (s : State) : (pollResponse n s).count = s.count := by
  rw [pollResponse_frame n s]
@[simp] theorem pollResponse_query (n : Nat) (s : State) : (pollResponse n s).query = s.query := by
  rw [pollResponse_frame n s]
@[simp] theorem pollResponse_code (n : Nat) (s : State) : (pollResponse n s).code = s.code := by
  rw [pollResponse_frame n s]
@[simp] theorem pollResponse_flags (n : Nat) (s : State) : (pollResponse n s).flags = s.flags := by
  rw [pollResponse_frame n s]
@[simp] theorem pollResponse_value (n : Nat) (s : State) : (pollResponse n s).value = s.value := by
  rw [pollResponse_frame n s]
@[simp] theorem pollResponse_buf (n : Nat) (s : State) : (pollResponse n s).buf = s.buf := by
  rw [pollResponse_frame n s]
@[simp] theorem pollResponse_host (n : Nat) (s : State) : (pollResponse n s).host = s.host := by
  rw [pollResponse_frame n s]
@[simp] theorem sendCommand_cfg (i : BitVec 6) (a : Word) (n : Nat) (s : State) : (sendCommand i a n s).cfg = s.cfg := by
  rw [sendCommand_frame i a n s]
@[simp] theorem sendCommand_status (i : BitVec 6) (a : Word) (n : Nat) (s : State) : (sendCommand i a n s).status = s.status := by
  rw [sendCommand_frame i a n s]
@[simp] theorem sendCommand_speed (i : BitVec 6) (a : Word) (n : Nat) (s : State) : (sendCommand i a n s).speed = s.speed := by
  rw [sendCommand_frame i a n s]
@[simp] theorem sendCommand_ctype (i : BitVec 6) (a : Word) (n : Nat) (s : State) : (sendCommand i a n s).ctype = s.ctype := by
  rw [sendCommand_frame i a n s]
@[simp] theorem sendCommand_ccs (i : BitVec 6) (a : Word) (n : Nat) (s : State) : (sendCommand i a n s).ccs = s.ccs := by
  rw [sendCommand_frame i a n s]
@[simp] theorem sendCommand_phase (i : BitVec 6) (a : Word) (n : Nat) (s : State) : (sendCommand i a n s).phase = s.phase := by
  rw [sendCommand_frame i a n s]
@[simp] theorem sendCommand_idx (i : BitVec 6) (a : Word) (n : Nat) (s : State) : (sendCommand i a n s).idx = i := by
  rw [sendCommand_frame i a n s]
@[simp] theorem sendCommand_arg (i : BitVec 6) (a : Word) (n : Nat) (s : State) : (sendCommand i a n s).arg = a := by
  rw [sendCommand_frame i a n s]
@[simp] theorem sendCommand_crc (i : BitVec 6) (a : Word) (n : Nat) (s : State) : (sendCommand i a n s).crc = crcFor i := by
  rw [sendCommand_frame i a n s]
@[simp] theorem sendCommand_trail0 (i : BitVec 6) (a : Word) (n : Nat) (s : State) : (sendCommand i a n s).trail0 = s.trail0 := by
  rw [sendCommand_frame i a n s]
@[simp] theorem sendCommand_trail1 (i : BitVec 6) (a : Word) (n : Nat) (s : State) : (sendCommand i a n s).trail1 = s.trail1 := by
  rw [sendCommand_frame i a n s]
@[simp] theorem sendCommand_trail2 (i : BitVec 6) (a : Word) (n : Nat) (s : State) : (sendCommand i a n s).trail2 = s.trail2 := by
  rw [sendCommand_frame i a n s]
@[simp] theorem sendCommand_trail3 (i : BitVec 6) (a : Word) (n : Nat) (s : State) : (sendCommand i a n s).trail3 = s.trail3 := by
  rw [sendCommand_frame i a n s]
@[simp] theorem sendCommand_sect (i : BitVec 6) (a : Word) (n : Nat) (s : State) : (sendCommand i a n s).sect = s.sect := by
  rw [sendCommand_frame i a n s]
@[simp] theorem sendCommand_sidx (i : BitVec 6) (a : Word) (n : Nat) (s : State) : (sendCommand i a n s).sidx = s.sidx := by
  rw [sendCommand_frame i a n s]
@[simp] theorem sendCommand_bcnt (i : BitVec 6) (a : Word) (n : Nat) (s : State) : (sendCommand i a n s).bcnt = s.bcnt := by
  rw [sendCommand_frame i a n s]
@[simp] theorem sendCommand_icnt (i : BitVec 6) (a : Word) (n : Nat) (s : State) : (sendCommand i a n s).icnt = s.icnt := by
  rw [sendCommand_frame i a n s]
@[simp] theorem sendCommand_op (i : BitVec 6) (a : Word) (n : Nat) (s : State) : (sendCommand i a n s).op = s.op := by
  rw [sendCommand_frame i a n s]
@[simp] theorem sendCommand_unit (i : BitVec 6) (a : Word) (n : Nat) (s : State) : (sendCommand i a n s).unit = s.unit := by
  rw [sendCommand_frame i a n s]
@[simp] theorem sendCommand_sector (i : BitVec 6) (a : Word) (n : Nat) (s : State) : (sendCommand i a n s).sector = s.sector := by
  rw [sendCommand_frame i a n s]
@[simp] theorem sendCommand_count (i : BitVec 6) (a : Word) (n : Nat) (s : State) : (sendCommand i a n s).count = s.count := by
  rw [sendCommand_frame i a n s]
@[simp] theorem sendCommand_query (i : BitVec 6) (a : Word) (n : Nat) (s : State) : (sendCommand i a n s).query = s.query := by
  rw [sendCommand_frame i a n s]
@[simp] theorem sendCommand_code (i : BitVec 6) (a : Word) (n : Nat) (s : State) : (sendCommand i a n s).code = s.code := by
  rw [sendCommand_frame i a n s]
@[simp] theorem sendCommand_flags (i : BitVec 6) (a : Word) (n : Nat) (s : State) : (sendCommand i a n s).flags = s.flags := by
  rw [sendCommand_frame i a n s]
@[simp] theorem sendCommand_value (i : BitVec 6) (a : Word) (n : Nat) (s : State) : (sendCommand i a n s).value = s.value := by
  rw [sendCommand_frame i a n s]
@[simp] theorem sendCommand_buf (i : BitVec 6) (a : Word) (n : Nat) (s : State) : (sendCommand i a n s).buf = s.buf := by
  rw [sendCommand_frame i a n s]
@[simp] theorem sendCommand_host (i : BitVec 6) (a : Word) (n : Nat) (s : State) : (sendCommand i a n s).host = s.host := by
  rw [sendCommand_frame i a n s]
@[simp] theorem command_cfg (i : BitVec 6) (a : Word) (s : State) : (command i a s).cfg = s.cfg :=
  sendCommand_cfg i a _ s
@[simp] theorem command_status (i : BitVec 6) (a : Word) (s : State) : (command i a s).status = s.status :=
  sendCommand_status i a _ s
@[simp] theorem command_speed (i : BitVec 6) (a : Word) (s : State) : (command i a s).speed = s.speed :=
  sendCommand_speed i a _ s
@[simp] theorem command_ctype (i : BitVec 6) (a : Word) (s : State) : (command i a s).ctype = s.ctype :=
  sendCommand_ctype i a _ s
@[simp] theorem command_ccs (i : BitVec 6) (a : Word) (s : State) : (command i a s).ccs = s.ccs :=
  sendCommand_ccs i a _ s
@[simp] theorem command_phase (i : BitVec 6) (a : Word) (s : State) : (command i a s).phase = s.phase :=
  sendCommand_phase i a _ s
@[simp] theorem command_idx (i : BitVec 6) (a : Word) (s : State) : (command i a s).idx = i :=
  sendCommand_idx i a _ s
@[simp] theorem command_arg (i : BitVec 6) (a : Word) (s : State) : (command i a s).arg = a :=
  sendCommand_arg i a _ s
@[simp] theorem command_crc (i : BitVec 6) (a : Word) (s : State) : (command i a s).crc = crcFor i :=
  sendCommand_crc i a _ s
@[simp] theorem command_trail0 (i : BitVec 6) (a : Word) (s : State) : (command i a s).trail0 = s.trail0 :=
  sendCommand_trail0 i a _ s
@[simp] theorem command_trail1 (i : BitVec 6) (a : Word) (s : State) : (command i a s).trail1 = s.trail1 :=
  sendCommand_trail1 i a _ s
@[simp] theorem command_trail2 (i : BitVec 6) (a : Word) (s : State) : (command i a s).trail2 = s.trail2 :=
  sendCommand_trail2 i a _ s
@[simp] theorem command_trail3 (i : BitVec 6) (a : Word) (s : State) : (command i a s).trail3 = s.trail3 :=
  sendCommand_trail3 i a _ s
@[simp] theorem command_sect (i : BitVec 6) (a : Word) (s : State) : (command i a s).sect = s.sect :=
  sendCommand_sect i a _ s
@[simp] theorem command_sidx (i : BitVec 6) (a : Word) (s : State) : (command i a s).sidx = s.sidx :=
  sendCommand_sidx i a _ s
@[simp] theorem command_bcnt (i : BitVec 6) (a : Word) (s : State) : (command i a s).bcnt = s.bcnt :=
  sendCommand_bcnt i a _ s
@[simp] theorem command_icnt (i : BitVec 6) (a : Word) (s : State) : (command i a s).icnt = s.icnt :=
  sendCommand_icnt i a _ s
@[simp] theorem command_op (i : BitVec 6) (a : Word) (s : State) : (command i a s).op = s.op :=
  sendCommand_op i a _ s
@[simp] theorem command_unit (i : BitVec 6) (a : Word) (s : State) : (command i a s).unit = s.unit :=
  sendCommand_unit i a _ s
@[simp] theorem command_sector (i : BitVec 6) (a : Word) (s : State) : (command i a s).sector = s.sector :=
  sendCommand_sector i a _ s
@[simp] theorem command_count (i : BitVec 6) (a : Word) (s : State) : (command i a s).count = s.count :=
  sendCommand_count i a _ s
@[simp] theorem command_query (i : BitVec 6) (a : Word) (s : State) : (command i a s).query = s.query :=
  sendCommand_query i a _ s
@[simp] theorem command_code (i : BitVec 6) (a : Word) (s : State) : (command i a s).code = s.code :=
  sendCommand_code i a _ s
@[simp] theorem command_flags (i : BitVec 6) (a : Word) (s : State) : (command i a s).flags = s.flags :=
  sendCommand_flags i a _ s
@[simp] theorem command_value (i : BitVec 6) (a : Word) (s : State) : (command i a s).value = s.value :=
  sendCommand_value i a _ s
@[simp] theorem command_buf (i : BitVec 6) (a : Word) (s : State) : (command i a s).buf = s.buf :=
  sendCommand_buf i a _ s
@[simp] theorem command_host (i : BitVec 6) (a : Word) (s : State) : (command i a s).host = s.host :=
  sendCommand_host i a _ s
@[simp] theorem readTrail_cfg (s : State) : (readTrail s).cfg = s.cfg := by
  rw [readTrail_spec s]
@[simp] theorem readTrail_status (s : State) : (readTrail s).status = s.status := by
  rw [readTrail_spec s]
@[simp] theorem readTrail_cs (s : State) : (readTrail s).cs = s.cs := by
  rw [readTrail_spec s]
@[simp] theorem readTrail_speed (s : State) : (readTrail s).speed = s.speed := by
  rw [readTrail_spec s]
@[simp] theorem readTrail_ctype (s : State) : (readTrail s).ctype = s.ctype := by
  rw [readTrail_spec s]
@[simp] theorem readTrail_ccs (s : State) : (readTrail s).ccs = s.ccs := by
  rw [readTrail_spec s]
@[simp] theorem readTrail_phase (s : State) : (readTrail s).phase = s.phase := by
  rw [readTrail_spec s]
@[simp] theorem readTrail_idx (s : State) : (readTrail s).idx = s.idx := by
  rw [readTrail_spec s]
@[simp] theorem readTrail_arg (s : State) : (readTrail s).arg = s.arg := by
  rw [readTrail_spec s]
@[simp] theorem readTrail_crc (s : State) : (readTrail s).crc = s.crc := by
  rw [readTrail_spec s]
@[simp] theorem readTrail_resp (s : State) : (readTrail s).resp = s.resp := by
  rw [readTrail_spec s]
@[simp] theorem readTrail_sect (s : State) : (readTrail s).sect = s.sect := by
  rw [readTrail_spec s]
@[simp] theorem readTrail_sidx (s : State) : (readTrail s).sidx = s.sidx := by
  rw [readTrail_spec s]
@[simp] theorem readTrail_bcnt (s : State) : (readTrail s).bcnt = s.bcnt := by
  rw [readTrail_spec s]
@[simp] theorem readTrail_pcnt (s : State) : (readTrail s).pcnt = s.pcnt := by
  rw [readTrail_spec s]
@[simp] theorem readTrail_icnt (s : State) : (readTrail s).icnt = s.icnt := by
  rw [readTrail_spec s]
@[simp] theorem readTrail_op (s : State) : (readTrail s).op = s.op := by
  rw [readTrail_spec s]
@[simp] theorem readTrail_unit (s : State) : (readTrail s).unit = s.unit := by
  rw [readTrail_spec s]
@[simp] theorem readTrail_sector (s : State) : (readTrail s).sector = s.sector := by
  rw [readTrail_spec s]
@[simp] theorem readTrail_count (s : State) : (readTrail s).count = s.count := by
  rw [readTrail_spec s]
@[simp] theorem readTrail_query (s : State) : (readTrail s).query = s.query := by
  rw [readTrail_spec s]
@[simp] theorem readTrail_code (s : State) : (readTrail s).code = s.code := by
  rw [readTrail_spec s]
@[simp] theorem readTrail_flags (s : State) : (readTrail s).flags = s.flags := by
  rw [readTrail_spec s]
@[simp] theorem readTrail_value (s : State) : (readTrail s).value = s.value := by
  rw [readTrail_spec s]
@[simp] theorem readTrail_buf (s : State) : (readTrail s).buf = s.buf := by
  rw [readTrail_spec s]
@[simp] theorem readTrail_host (s : State) : (readTrail s).host = s.host := by
  rw [readTrail_spec s]
@[simp] theorem readTrail_xcount (s : State) : (readTrail s).xcount = s.xcount + 4 := by
  rw [readTrail_spec s]

/-- CS on return from `SendCommand`: "`CS = 0` iff the returned byte has bit 7 equal to 0" (R147). -/
theorem sendCommand_line (i : BitVec 6) (a : Word) (n : Nat) (s : State) :
    (sendCommand i a n s).cs = if isFiller (sendCommand i a n s).resp then 1 else 0 :=
  pollResponse_line n _ (by simp [sendFrame]) (by simp [sendFrame, deselect])

theorem command_line (i : BitVec 6) (a : Word) (s : State) :
    (command i a s).cs = if isFiller (command i a s).resp then 1 else 0 := sendCommand_line i a _ s

end Sys2Proof.Machine
end

