-- ==== Sys2Proof/Laws/BlockTransfer.lean ====
section
/-! SUPPORT. What the loops of READ and WRITE can do, one lemma each. -/

namespace Sys2Proof.Machine

/-! ### Token polling (R203) -/

/-- Token polling writes PHASE, PCNT, BCNT, the input position and the log, nothing else. -/
theorem tokenWait_frame (n : Nat) (s : State) :
    tokenWait n s = { s with phase := (tokenWait n s).phase, pcnt := (tokenWait n s).pcnt, bcnt := (tokenWait n s).bcnt,
                             card := (tokenWait n s).card, xcount := (tokenWait n s).xcount, log := (tokenWait n s).log } := by
  induction n generalizing s with
  | zero => rfl
  | succ n ih =>
    by_cases h1 : rx s = tokenStart
    · simp only [tokenWait, if_pos h1]; rfl
    · by_cases h2 : rx s = tokenFiller
      · simp only [tokenWait, if_neg h1, if_pos h2]; rw [ih]; rfl
      · simp only [tokenWait, if_neg h1, if_neg h2]; rfl

/-- It ends at RD_DATA with no byte taken yet, or at X_FAIL. -/
theorem tokenWait_phase (n : Nat) (s : State) :
    ((tokenWait n s).phase = .rdData ∧ (tokenWait n s).bcnt = 0) ∨ (tokenWait n s).phase = .xFail := by
  induction n generalizing s with
  | zero => exact .inr rfl
  | succ n ih =>
    by_cases h1 : rx s = tokenStart
    · simp only [tokenWait, if_pos h1]; exact .inl ⟨rfl, rfl⟩
    · by_cases h2 : rx s = tokenFiller
      · simp only [tokenWait, if_neg h1, if_pos h2]; exact ih _
      · simp only [tokenWait, if_neg h1, if_neg h2]; exact .inr rfl

theorem tokenWait_xcount (n : Nat) (s : State) : (tokenWait n s).xcount ≤ s.xcount + n := by
  induction n generalizing s with
  | zero => exact Nat.le_refl _
  | succ n ih =>
    by_cases h1 : rx s = tokenStart
    · simp only [tokenWait, if_pos h1]; simp
    · by_cases h2 : rx s = tokenFiller
      · simp only [tokenWait, if_neg h1, if_pos h2]; have := ih (waitOnce s); rw [waitOnce_xcount] at this; omega
      · simp only [tokenWait, if_neg h1, if_neg h2]; simp

/-! ### The busy-wait (R212) -/

/-- The busy-wait writes PHASE, PCNT, the input position and the log, nothing else. -/
theorem busyWait_frame (n : Nat) (s : State) :
    busyWait n s = { s with phase := (busyWait n s).phase, pcnt := (busyWait n s).pcnt, card := (busyWait n s).card,
                            xcount := (busyWait n s).xcount, log := (busyWait n s).log } := by
  induction n generalizing s with
  | zero => rfl
  | succ n ih =>
    by_cases h : rx s = notBusy
    · simp only [busyWait, if_pos h]; rfl
    · simp only [busyWait, if_neg h]; rw [ih]; rfl

/-- It ends at WR_TRAIL or at X_FAIL. -/
theorem busyWait_phase (n : Nat) (s : State) : (busyWait n s).phase = .wrTrail ∨ (busyWait n s).phase = .xFail := by
  induction n generalizing s with
  | zero => exact .inr rfl
  | succ n ih =>
    by_cases h : rx s = notBusy
    · simp only [busyWait, if_pos h]; exact .inl rfl
    · simp only [busyWait, if_neg h]; exact ih _

theorem busyWait_xcount (n : Nat) (s : State) : (busyWait n s).xcount ≤ s.xcount + n := by
  induction n generalizing s with
  | zero => exact Nat.le_refl _
  | succ n ih =>
    by_cases h : rx s = notBusy
    · simp only [busyWait, if_pos h]; simp
    · simp only [busyWait, if_neg h]; have := ih (waitOnce s); rw [waitOnce_xcount] at this; omega

/-! ### The payload loops (R204, R209) -/

/-- The payload of READ writes the buffer, BCNT, the input position and the log, nothing else. -/
theorem readPayload_frame (n : Nat) (s : State) :
    readPayload n s = { s with buf := (readPayload n s).buf, bcnt := s.bcnt + n, card := (readPayload n s).card,
                               xcount := s.xcount + n, log := (readPayload n s).log } := by
  induction n generalizing s with
  | zero => rfl
  | succ n ih =>
    rw [readPayload, ih]
    apply State.ext <;> simp [readByte] <;> omega

/-- It keeps the buffer's canonical form. -/
theorem readPayload_wf (n : Nat) (s : State) (h : s.buf.wf = true) : (readPayload n s).buf.wf = true := by
  induction n generalizing s with
  | zero => exact h
  | succ n ih => rw [readPayload]; exact ih _ (by simpa [readByte] using Memory.wf_write _ _ _ h)

/-- It stores to the offsets of its bytes only. -/
theorem readPayload_other (n : Nat) (s : State) (off : Nat)
    (h : off < bufOffset s.sidx s.bcnt ∨ bufOffset s.sidx s.bcnt + n ≤ off) :
    (readPayload n s).buf.read off = s.buf.read off := by
  induction n generalizing s with
  | zero => rfl
  | succ n ih =>
    rw [readPayload, ih]
    · simp only [readByte, memWrite_buf, xchg_buf]
      exact Memory.read_write_other _ _ _ _ (by omega)
    · simp [readByte, bufOffset] at h ⊢; omega

/-- The payload of WRITE writes BCNT, the input position and the log, nothing else: the buffer is as before. -/
theorem writePayload_frame (n : Nat) (s : State) :
    writePayload n s = { s with bcnt := s.bcnt + n, card := (writePayload n s).card, xcount := s.xcount + n,
                                log := (writePayload n s).log } := by
  induction n generalizing s with
  | zero => rfl
  | succ n ih =>
    rw [writePayload, ih]
    apply State.ext <;> simp [writeByte] <;> omega

/-- The payload of READ on scripted bytes: the events, and byte `j` at its offset. -/
theorem readPayload_heard (bs rest : List Byte) (s : State) (h : s.card = bs ++ rest) (hw : s.buf.wf = true) :
    (readPayload bs.length s).card = rest ∧
      (readPayload bs.length s).log = (storeEvents s.sidx s.bcnt bs).reverse ++ s.log ∧
      ∀ j v, bs[j]? = some v → (readPayload bs.length s).buf.read (bufOffset s.sidx (s.bcnt + j)) = v := by
  induction bs generalizing s with
  | nil => simp_all [readPayload, storeEvents]
  | cons b bs ih =>
    have hb : rx s = b := rx_cons (by simpa using h)
    obtain ⟨h1, h2, h3⟩ := ih (readByte s) (by simp [readByte, h]) (by simpa [readByte] using Memory.wf_write _ _ _ hw)
    rw [List.length_cons, readPayload]
    refine ⟨h1, ?_, ?_⟩
    · rw [h2]; simp [readByte, storeEvents, hb]
    · intro j v hj
      cases j with
      | zero =>
        have hv : b = v := by simpa using hj
        rw [readPayload_other _ _ _ (.inl (by simp [readByte, bufOffset]))]
        simp only [readByte, memWrite_buf, xchg_buf, Nat.add_zero]
        rw [Memory.read_write_same _ _ _ hw, hb, hv]
      | succ j =>
        have := h3 j v (by simpa using hj)
        simp only [readByte, memWrite_sidx, xchg_sidx] at this
        rw [← this]
        simp [readByte, bufOffset]
        congr 1
        omega

/-- The payload of WRITE on scripted bytes: each buffer byte read once, and sent unchanged. -/
theorem writePayload_heard (bs rest : List Byte) (s : State) (h : s.card = bs ++ rest) :
    (writePayload bs.length s).card = rest ∧
      (writePayload bs.length s).log = (loadEvents s.buf s.sidx s.bcnt bs).reverse ++ s.log := by
  induction bs generalizing s with
  | nil => simp_all [writePayload, loadEvents]
  | cons b bs ih =>
    have hb : rx s = b := rx_cons (by simpa using h)
    obtain ⟨h1, h2⟩ := ih (writeByte s) (by simp [writeByte, h])
    rw [List.length_cons, writePayload]
    refine ⟨h1, ?_⟩
    rw [h2]
    have hn : rx (noteMemRead (bufOffset s.sidx s.bcnt) s) = b := by rw [rx_congr (s := s) (by simp) (by simp), hb]
    simp [writeByte, loadEvents, hn]

/-! ### What a card reads from the events (R217) -/

/-- While the card is listened to, it is sent idle bytes. -/
theorem bytesUntilSel_listen (bs : List Byte) (es : List Event) :
    bytesUntilSel (listen bs ++ es) = List.replicate bs.length idleByte ++ bytesUntilSel es := by
  induction bs with
  | nil => rfl
  | cons b bs ih => simpa [listen, bytesUntilSel, List.replicate_succ] using ih

/-- The payload of WRITE sends the buffer bytes from byte `j` on. -/
theorem bytesUntilSel_loadEvents (m : Memory) (i j : Nat) (bs : List Byte) (es : List Event) :
    bytesUntilSel (loadEvents m i j bs ++ es) =
      (List.range' j bs.length).map (fun k => m.read (bufOffset i k)) ++ bytesUntilSel es := by
  induction bs generalizing j with
  | nil => rfl
  | cons b bs ih => simp [loadEvents, bytesUntilSel, ih, List.range'_succ]

/-- Any exchanges send their bytes. -/
theorem bytesUntilSel_zip (outs ins : List Byte) (es : List Event) (h : outs.length = ins.length) :
    bytesUntilSel (List.zipWith Event.x outs ins ++ es) = outs ++ bytesUntilSel es := by
  induction outs generalizing ins with
  | nil => simp
  | cons o outs ih =>
    cases ins with
    | nil => simp at h
    | cons b ins => simp [bytesUntilSel, ih ins (by simpa using h)]

/-- Events that leave the select line alone begin no selection. -/
theorem selections_append_of_no_sel (es fs : List Event) (h : ∀ v, Event.sel v ∉ es) : selections (es ++ fs) = selections fs := by
  induction es with
  | nil => rfl
  | cons e es ih =>
    have hes : ∀ v, Event.sel v ∉ es := fun v hv => h v (List.mem_cons_of_mem _ hv)
    cases e with
    | sel v => exact absurd List.mem_cons_self (h v)
    | spd _ | x _ _ | memRead _ _ | memWrite _ _ => simpa [selections] using ih hes

end Sys2Proof.Machine
end

