-- ==== Sys2Proof/Laws/Initialization.lean ====
section
/-! SUPPORT. What the loops and the response handling of INITIALIZE can do, one lemma each. -/

namespace Sys2Proof.Machine

/-- The power-up exchanges write PCNT, the input position and the log, nothing else (R173). -/
theorem powerUp_frame (n : Nat) (s : State) :
    powerUp n s = { s with pcnt := s.pcnt + n, card := (powerUp n s).card, xcount := s.xcount + n, log := (powerUp n s).log } := by
  induction n generalizing s with
  | zero => rfl
  | succ n ih =>
    rw [powerUp, ih]
    apply State.ext <;> simp <;> omega

/-- The power-up exchanges on scripted bytes. -/
theorem powerUp_heard (bs rest : List Byte) (s : State) (h : s.card = bs ++ rest) :
    powerUp bs.length s = { s with pcnt := s.pcnt + bs.length, card := rest, xcount := s.xcount + bs.length,
                                   log := (listen bs).reverse ++ s.log } := by
  induction bs generalizing s with
  | nil => apply State.ext <;> simp_all [powerUp, listen]
  | cons b bs ih =>
    rw [List.length_cons, powerUp, ih _ (by simp [h])]
    apply State.ext <;> simp [h, rx, listen] <;> omega

/-- The level of the line after Step 1: high (R173). -/
theorem busReset_line (s : State) : (busReset s).cs = 1 := by
  rw [busReset, powerUp_frame]
  simp [select]

/-- The answer of INITIALIZE after `Deselect()` on the success path (R181). -/
theorem initDone_spec (s : State) :
    initDone s = { s with cs := 1, speed := some s.cfg.fFast, status := s.status &&& 0xFE#8, phase := .idle, code := resOk, value := 0,
                          flags := (s.status &&& 0xFE#8) &&& 0x01#8, card := s.card.tail, xcount := s.xcount + 1,
                          log := .spd s.cfg.fFast :: .x idleByte (rx s) :: .sel 1 :: s.log } := rfl

/-- The failure exit (R182). -/
theorem initFail_spec (s : State) :
    initFail s = { s with cs := 1, phase := .idle, code := 0, value := 0, flags := s.status &&& 0x01#8, card := s.card.tail,
                          xcount := s.xcount + 1, log := .x idleByte (rx s) :: .sel 1 :: s.log } := rfl

/-- The response handling of each command moves PHASE; beside it only the registers its rule names are written. -/
theorem afterCmd0_spec (s : State) : afterCmd0 s = { s with phase := (afterCmd0 s).phase } := rfl
theorem afterCmd55_spec (s : State) : afterCmd55 s = { s with phase := (afterCmd55 s).phase } := rfl
theorem afterCmd1_spec (s : State) : afterCmd1 s = { s with phase := (afterCmd1 s).phase } := rfl
theorem afterCmd58_spec (s : State) : afterCmd58 s = { s with phase := (afterCmd58 s).phase } := rfl
theorem afterOcr_spec (s : State) : afterOcr s = { s with phase := .iDone, ccs := capacityBit s.trail0 } := rfl

theorem beginAcmdLoop_spec (s : State) :
    beginAcmdLoop s = { s with icnt := 0, phase := if 0 < s.cfg.nAcmd then .iCmd55 else .iFail } := rfl

theorem afterAcmd41_spec (s : State) :
    afterAcmd41 s =
      { s with icnt := if s.resp = respReady then s.icnt else s.icnt + 1, phase := (afterAcmd41 s).phase } := by
  by_cases h : s.resp = respReady <;> simp [afterAcmd41, acmdLoopHead, goto, h]

theorem afterCmd8_spec (s : State) :
    afterCmd8 s = { s with ctype := .v1Mmc, icnt := (afterCmd8 s).icnt, phase := (afterCmd8 s).phase } := by
  by_cases h : s.resp = respIdle <;> simp [afterCmd8, beginAcmdLoop, acmdLoopHead, goto, h]

theorem afterR7_spec (s : State) :
    afterR7 s = { s with ctype := if echoMatches s.trail2 s.trail3 then .v2 else s.ctype, icnt := 0, phase := (afterR7 s).phase } := by
  by_cases h : echoMatches s.trail2 s.trail3 = true <;> simp [afterR7, beginAcmdLoop, acmdLoopHead, goto, h]

end Sys2Proof.Machine
end

