-- ==== Sys2Proof/Laws/PerInstr.lean ====
section
/-! SUPPORT. The per-instruction family EncodedWf: what each instruction is written as is well-formed and has its format's length. -/

namespace Sys2Proof.Laws.EncodedWf

/-- A frame the engine may send in 6 bytes, or a request that selects an operation in 11 bytes (30_encoding.md R90, R94, R104,
R107, R108, R110). -/
def Statement (i : Instr) : Prop :=
  (∃ f, i.encoded = .frame f ∧ f.wf = true ∧ (encode i).length = 6) ∨
    (∃ r, i.encoded = .request r ∧ r.wf = true ∧ (encode i).length = 11)

theorem cmd0 : Statement .cmd0 := .inl ⟨_, rfl, by decide, rfl⟩
theorem cmd8 : Statement .cmd8 := .inl ⟨_, rfl, by decide, rfl⟩
theorem cmd55 : Statement .cmd55 := .inl ⟨_, rfl, by decide, rfl⟩
theorem acmd41 (hcs : Bool) : Statement (.acmd41 hcs) := .inl ⟨_, rfl, by cases hcs <;> decide, rfl⟩
theorem cmd1 : Statement .cmd1 := .inl ⟨_, rfl, by decide, rfl⟩
theorem cmd58 : Statement .cmd58 := .inl ⟨_, rfl, by decide, rfl⟩
theorem cmd17 (arg : Word) : Statement (.cmd17 arg) := .inl ⟨_, rfl, rfl, rfl⟩
theorem cmd24 (arg : Word) : Statement (.cmd24 arg) := .inl ⟨_, rfl, rfl, rfl⟩
theorem hostInitialize (unit : Byte) : Statement (.hostInitialize unit) := .inr ⟨_, rfl, rfl, rfl⟩
theorem hostStatus (unit : Byte) : Statement (.hostStatus unit) := .inr ⟨_, rfl, rfl, rfl⟩
theorem hostRead (unit : Byte) (sector count : Word) : Statement (.hostRead unit sector count) := .inr ⟨_, rfl, rfl, rfl⟩
theorem hostWrite (unit : Byte) (sector count : Word) : Statement (.hostWrite unit sector count) := .inr ⟨_, rfl, rfl, rfl⟩
theorem ioctlCtrlSync (unit : Byte) : Statement (.ioctlCtrlSync unit) := .inr ⟨_, rfl, rfl, rfl⟩
theorem ioctlGetSectorSize (unit : Byte) : Statement (.ioctlGetSectorSize unit) := .inr ⟨_, rfl, rfl, rfl⟩
theorem ioctlGetBlockSize (unit : Byte) : Statement (.ioctlGetBlockSize unit) := .inr ⟨_, rfl, rfl, rfl⟩

end Sys2Proof.Laws.EncodedWf
end

