-- ==== Sys2Proof/Laws/Sequencer.lean ====
section
/-! SUPPORT. Laws of the sequencer: running it in pieces, and what a step does at the two labels where it runs an instruction. -/

namespace Sys2Proof.Machine

/-- Steps compose. -/
theorem ticks_add {m n : Nat} {s t : State} (h : ticks m s = .next t) : ticks (m + n) s = ticks n t := by
  induction m generalizing s with
  | zero =>
    simp only [ticks, Host.Outcome.next.injEq] at h
    rw [h, Nat.zero_add]
  | succ m ih =>
    rw [Nat.succ_add]
    simp only [ticks] at h ⊢
    cases ht : tick s with
    | next u => simp only [ht] at h ⊢; exact ih h
    | fault r => simp [ht] at h
    | refused r => simp [ht] at h

/-- One step, then the rest. -/
theorem ticks_succ {n : Nat} {s t : State} (h : tick s = .next t) : ticks (n + 1) s = ticks n t := by
  simp only [ticks, h]

/-- Away from IDLE and C_DESEL a step of the machine is a step of the sequencer. -/
theorem step_eq_tick {s : State} (h1 : s.phase ≠ .idle) (h2 : s.phase ≠ .cDesel) : step s = tick s := by
  unfold step
  split <;> first | rfl | contradiction

end Sys2Proof.Machine
end

