-- ==== Sys2Proof/Tests/Slice0.lean ====
section
/-! SUPPORT. The model's own tests. Expected results are the vectors of 95_test_vectors.md (named C1, I2, Q3, ...) and the worked
examples of the rules; the words of the decode tests are written from 30_encoding.md R91, R102, R110. The last part holds one
witness for each statement of Certificates/Slice0/Obligations.lean that has hypotheses. -/

namespace Sys2Proof.Tests

open Sys2Proof.Machine

/-! ### Small states -/

/-- The small test set of 95_test_vectors.md part 0. -/
def cfg : Config where
  nResp := 4
  nRespReset := 6
  nPwrup := 10
  nAcmd := 3
  nToken := 5
  nBusy := 4
  fSlow := 400000
  fFast := 1000000
  addrMode := .block

/-- "reset state" with a card script. -/
def fresh (card : List Byte) : State := { State.reset with cfg := cfg, card := card }

/-- "READY state" with a card script. -/
def ready (card : List Byte) : State :=
  { fresh card with status := 0x00, speed := some 1000000, ctype := .v2, ccs := 1 }

/-- The seven bytes a `SendCommand` ignores. -/
def ign : List Byte := List.replicate 7 0xFF

/-- What `f` reads of the next state. -/
def seen {α : Type} (f : State → α) : Host.Outcome State Fault Refusal → Option α
  | .next t => some (f t)
  | _ => none

/-- CODE, FLAGS, VALUE. -/
def response (t : State) : BitVec 3 × Byte × Word := (t.code, t.flags, t.value)

/-- The "end state" of the vectors. -/
structure EndState where
  status : Byte
  cs : BitVec 1
  speed : Option Nat
  ctype : CardType
  ccs : BitVec 1
  deriving DecidableEq, Repr

def lasting (t : State) : EndState := ⟨t.status, t.cs, t.speed, t.ctype, t.ccs⟩

/-! ### Well-formedness refuses ill-formed terms -/

theorem test_frame_wf : (⟨17, 0x12345678, 0x01⟩ : Frame).wf = true := by decide
theorem test_frame_unused_index : (⟨63, 0, 0x01⟩ : Frame).wf = false := by decide
theorem test_frame_wrong_argument : (⟨0, 1, 0x95⟩ : Frame).wf = false := by decide
theorem test_frame_wrong_echo_argument : (⟨8, 0x000001AB, 0x87⟩ : Frame).wf = false := by decide
theorem test_frame_wrong_op_cond_argument : (⟨41, 0x40000001, 0x01⟩ : Frame).wf = false := by decide
theorem test_frame_wrong_crc : (⟨0, 0, 0x01⟩ : Frame).wf = false := by decide
theorem test_request_reserved_op : (⟨5, 0, 0, 0, 0⟩ : Request).wf = false := by decide
theorem test_request_unknown_query : (⟨4, 0, 1, 0, 0⟩ : Request).wf = false := by decide
theorem test_request_query_unused : (⟨1, 0, 1, 0, 0⟩ : Request).wf = true := by decide
theorem test_config_valid : cfg.valid = true := by decide
theorem test_config_short_power_up : { cfg with nPwrup := 9 }.valid = false := by decide
theorem test_config_reset_bound_too_short : { cfg with nRespReset := 3 }.valid = false := by decide
theorem test_config_slow_too_fast : { cfg with fSlow := 400001 }.valid = false := by decide
theorem test_config_slow_zero : { cfg with fSlow := 0 }.valid = false := by decide
theorem test_config_fast_zero : { cfg with fFast := 0 }.valid = false := by decide
theorem test_byte_mode_argument : (Instr.cmd17 0x02468A01).wf .byte = false := by decide
theorem test_byte_mode_argument_write : (Instr.cmd24 1).wf .byte = false := by decide
theorem test_block_mode_argument : (Instr.cmd17 0x02468A01).wf .block = true := by decide

/-! ### Decoding words written out from the spec, one for each constructor, and the rejects -/

theorem test_decode_cmd0 : decode [0x40, 0x00, 0x00, 0x00, 0x00, 0x95] = .ok .cmd0 := by decide
theorem test_decode_cmd8 : decode [0x48, 0x00, 0x00, 0x01, 0xAA, 0x87] = .ok .cmd8 := by decide
theorem test_decode_cmd55 : decode [0x77, 0x00, 0x00, 0x00, 0x00, 0x01] = .ok .cmd55 := by decide
theorem test_decode_acmd41_v2 : decode [0x69, 0x40, 0x00, 0x00, 0x00, 0x01] = .ok (.acmd41 true) := by decide
theorem test_decode_acmd41_v1 : decode [0x69, 0x00, 0x00, 0x00, 0x00, 0x01] = .ok (.acmd41 false) := by decide
theorem test_decode_cmd1 : decode [0x41, 0x00, 0x00, 0x00, 0x00, 0x01] = .ok .cmd1 := by decide
theorem test_decode_cmd58 : decode [0x7A, 0x00, 0x00, 0x00, 0x00, 0x01] = .ok .cmd58 := by decide
theorem test_decode_cmd17 : decode [0x51, 0x12, 0x34, 0x56, 0x78, 0x01] = .ok (.cmd17 0x12345678) := by decide
theorem test_decode_cmd24 : decode [0x58, 0x00, 0x00, 0x00, 0x07, 0x01] = .ok (.cmd24 7) := by decide
/-- CMD24 as 48 bits: fixed 01, index 011000, argument, CRC. -/
theorem test_decode_cmd24_bits :
    decodeTableWord 48 0b010110001000000000000000000000000000000100000001 = some (.cmd24 0x80000001) := by decide
theorem test_decode_initialize : decodeTableWord 83 0x000000000000000000000 = some (.hostInitialize 0) := by decide
theorem test_decode_status : decodeTableWord 83 0x1FF000000000000000000 = some (.hostStatus 255) := by decide
theorem test_decode_read : decodeTableWord 83 0x20000FFFFFFFF00000002 = some (.hostRead 0 0xFFFFFFFF 2) := by decide
theorem test_decode_write : decodeTableWord 88 0x307000001234589ABCDEF = some (.hostWrite 7 0x00012345 0x89ABCDEF) := by decide
theorem test_decode_sync : decodeTableWord 83 0x400000000000000000000 = some (.ioctlCtrlSync 0) := by decide
theorem test_decode_sector_size : decodeTableWord 83 0x401020000000000000000 = some (.ioctlGetSectorSize 1) := by decide
theorem test_decode_block_size : decodeTableWord 88 0x400030000000000000000 = some (.ioctlGetBlockSize 0) := by decide
theorem test_reject_length : decode [0x40, 0x00] = .error .length := by decide
theorem test_reject_start_bits : decode [0xC0, 0x00, 0x00, 0x00, 0x00, 0x95] = .error .startBits := by decide
theorem test_reject_index : decode [0x42, 0x00, 0x00, 0x00, 0x00, 0x01] = .error .index := by decide
theorem test_reject_argument : decode [0x77, 0x00, 0x00, 0x00, 0x01, 0x01] = .error .argument := by decide
theorem test_reject_crc : decode [0x51, 0x00, 0x00, 0x00, 0x01, 0x95] = .error .crc := by decide
theorem test_reject_padding : decode [0x08, 0, 0, 0, 0, 0, 0, 0, 0, 0, 0] = .error .padding := by decide
theorem test_reject_op : decode [0x05, 0, 0, 0, 0, 0, 0, 0, 0, 0, 0] = .error .op := by decide
theorem test_reject_query : decode [0x04, 0, 1, 0, 0, 0, 0, 0, 0, 0, 0] = .error .query := by decide
/-- R92: the first byte of each frame. -/
theorem test_command_byte : commandByte 63 = 0x7F := by decide

/-! ### Fetching -/

/-- A frame placed in the descriptor runs as the first instruction after reset. -/
theorem test_fetch_frame :
    step (State.reset.withFetchWord 48 0x510001234501) =
      exec (.cmd17 0x00012345) (State.reset.withFetchWord 48 0x510001234501) := rfl

/-- A request placed by the host runs as the first instruction after reset. -/
theorem test_fetch_request :
    seen response (step (State.reset.withFetchWord 88 0x100000000000000000000)) = some (0, 0x01, 0) := by decide

/-! ### The shared procedures -/

/-- C2: timeout, the last polled byte, big-endian argument. -/
theorem test_send_command_timeout :
    (let t := sendCommand 17 0x12345678 2 (fresh (ign ++ [0xFF, 0xFF, 0xFF]))
     (t.resp, t.cs, t.xcount, t.log.reverse)) =
      (0xFF, 1, 10, [.sel 1, .x 0xFF 0xFF, .sel 0, .x 0x51 0xFF, .x 0x12 0xFF, .x 0x34 0xFF, .x 0x56 0xFF, .x 0x78 0xFF, .x 0x01 0xFF,
        .x 0xFF 0xFF, .x 0xFF 0xFF, .sel 1, .x 0xFF 0xFF]) := by decide

/-- C3: zero bound. -/
theorem test_send_command_zero_bound :
    (let t := sendCommand 55 0 0 (fresh (ign ++ [0x00])); (t.resp, t.cs, t.xcount)) = (0xFF, 1, 8) := by decide

/-- C7: largest index and argument. -/
theorem test_send_command_largest :
    (let t := sendCommand 63 0xFFFFFFFF 1 (fresh (ign ++ [0x05])); (t.resp, t.cs, t.crc, t.xcount)) = (0x05, 0, 0x01, 8) := by decide

/-- H2: the event is made although the line is already high. -/
theorem test_deselect : (deselect (fresh [0x12])).log = [.x 0xFF 0x12, .sel 1] := by decide

/-- H3. -/
theorem test_read_trail :
    (let t := readTrail (fresh [0x00, 0xC0, 0xFF, 0x80]); (t.trail0, t.trail1, t.trail2, t.trail3)) = (0x00, 0xC0, 0xFF, 0x80) := by
  decide

/-- R202, R208: the worked arguments of the two addressing modes. -/
theorem test_block_arg : blockArg .byte 0x00012345 = 0x02468A00 ∧ blockArg .byte 7 = 0x00000E00 := by decide

/-- R65: the sector index wraps. -/
theorem test_sector_index_wraps : sectorIndex 0xFFFFFFFF 1 = 0 := by decide

/-- R99: the eight accepted bytes are 0x05 with any bits 7:5. -/
theorem test_data_response : dataAccepted 0xE5 = true ∧ dataAccepted 0x0B = false ∧ dataAccepted 0xFF = false := by decide

/-- Writing what an unlisted offset reads as removes the cell. -/
theorem test_buffer_canonical : Memory.write [(3, 7)] 3 0 = [] ∧ Memory.write [(3, 7)] 1 9 = [(1, 9), (3, 7)] := by decide

/-- What a card reads from the events of a sector written with CMD24 to 0x01020304 (frame bytes from R110), and that a refused one
gives it no block. -/
theorem test_blocks_sent :
    (let frame : List Event := [.sel 1, .x 0xFF 0, .sel 0, .x 0x58 0, .x 0x01 0, .x 0x02 0, .x 0x03 0, .x 0x04 0, .x 0x01 0]
     (blocksSent (frame ++ [.x 0xFF 0, .x 0xFE 0, .memRead 0 0xFE, .x 0xFE 0, .memRead 1 7, .x 7 0, .sel 1, .x 0xFF 0]),
      blocksSent (frame ++ [.x 0xFF 5, .sel 1, .x 0xFF 0]))) =
      ([(0x01020304, [0xFE, 7])], []) := by decide

/-! ### The wire commands (one step each) -/

theorem test_cmd0_passes :
    seen (fun t => (t.phase, t.resp, t.crc, t.cs)) (exec .cmd0 (fresh (ign ++ [0xFF, 0x01]))) = some (.iCmd8, 0x01, 0x95, 0) := by
  decide
/-- I3: `00` is not the idle code. -/
theorem test_cmd0_ready_is_failure : seen (·.phase) (exec .cmd0 (fresh (ign ++ [0x00]))) = some .iFail := by decide
theorem test_cmd8_v2 :
    seen (fun t => (t.phase, t.ctype, t.icnt)) (exec .cmd8 (fresh (ign ++ [0x01, 0xFF, 0xFF, 0x01, 0xAA]))) =
      some (.iCmd55, .v2, 0) := by decide
/-- I5: the echo pattern is wrong. -/
theorem test_cmd8_wrong_echo :
    seen (fun t => (t.phase, t.ctype, t.trail3)) (exec .cmd8 (fresh (ign ++ [0x01, 0x00, 0x00, 0x01, 0xAB]))) =
      some (.iCmd55, .v1Mmc, 0xAB) := by decide
theorem test_cmd55_accepted : seen (·.phase) (exec .cmd55 (fresh (ign ++ [0x01]))) = some .iAcmd41 := by decide
/-- I14: a timeout byte is greater than `01`. -/
theorem test_cmd55_timeout :
    seen (fun t => (t.phase, t.cs)) (exec .cmd55 (fresh (ign ++ [0xFF, 0xFF, 0xFF, 0xFF, 0xFF]))) = some (.iCmd1, 1) := by decide
theorem test_acmd41_ready_v2 :
    seen (fun t => (t.phase, t.arg)) (exec (.acmd41 true) { fresh (ign ++ [0x00]) with ctype := .v2 }) =
      some (.iCmd58, 0x40000000) := by decide
/-- I9: the third iteration without `00` is the last. -/
theorem test_acmd41_bound :
    seen (fun t => (t.phase, t.icnt)) (exec (.acmd41 false) { fresh (ign ++ [0x05]) with icnt := 2 }) = some (.iFail, 3) := by decide
theorem test_cmd1_ready : seen (·.phase) (exec .cmd1 (fresh (ign ++ [0x00]))) = some .iDone := by decide
/-- I8. -/
theorem test_cmd1_idle : seen (·.phase) (exec .cmd1 (fresh (ign ++ [0x01]))) = some .iFail := by decide
theorem test_cmd58_capacity :
    seen (fun t => (t.phase, t.ccs)) (exec .cmd58 (fresh (ign ++ [0x00, 0xC0, 0xFF, 0x80, 0x00]))) = some (.iDone, 1) := by decide
/-- I13: no OCR bytes are read. -/
theorem test_cmd58_error :
    seen (fun t => (t.phase, t.ccs, t.xcount)) (exec .cmd58 (fresh (ign ++ [0x05, 0xC0]))) = some (.iDone, 0, 8) := by decide
theorem test_cmd17_ready : seen (·.phase) (exec (.cmd17 7) (ready (ign ++ [0x00]))) = some .rdToken := by decide
theorem test_cmd17_idle_is_failure : seen (·.phase) (exec (.cmd17 7) (ready (ign ++ [0x01]))) = some .xFail := by decide
theorem test_cmd24_ready : seen (·.phase) (exec (.cmd24 7) (ready (ign ++ [0x00]))) = some .wrToken := by decide
theorem test_cmd24_trace :
    seen (fun t => (t.phase, t.log.reverse)) (exec (.cmd24 7) (ready (ign ++ [0x05]))) =
      some (.xFail, [.sel 1, .x 0xFF 0xFF, .sel 0, .x 0x58 0xFF, .x 0x00 0xFF, .x 0x00 0xFF, .x 0x00 0xFF, .x 0x07 0xFF,
        .x 0x01 0xFF, .x 0xFF 0x05]) := by decide

/-! ### The host operations (one step each) -/

/-- I1. -/
theorem test_initialize_v2 :
    seen (fun t => (lasting t, response t, t.xcount)) (exec (.hostInitialize 0) (fresh (List.replicate 10 0xFF ++ ign ++ [0xFF, 0x01] ++
      ign ++ [0x01, 0x00, 0x00, 0x01, 0xAA] ++ ign ++ [0x01] ++ ign ++ [0x01] ++ ign ++ [0x01] ++ ign ++ [0x00] ++
      ign ++ [0x00, 0xC0, 0xFF, 0x80, 0x00] ++ [0xFF]))) =
      some (⟨0x00, 1, some 1000000, .v2, 1⟩, (0, 0x00, 0), 76) := by decide
/-- I17: a READY device whose re-initialization fails. -/
theorem test_initialize_fails :
    seen (fun t => (lasting t, response t, t.xcount))
      (exec (.hostInitialize 0) (ready (List.replicate 10 0xFF ++ ign ++ [0x00] ++ [0xFF]))) =
      some (⟨0x01, 1, some 400000, .unknown, 0⟩, (0, 0x01, 0), 19) := by decide
/-- Q2, Q15. -/
theorem test_status : seen response (exec (.hostStatus 0) (ready [])) = some (0, 0x00, 0) := by decide
theorem test_status_bad_unit : seen response (exec (.hostStatus 1) (ready [])) = some (0, 0x01, 0) := by decide
/-- A token-wait byte that is neither token nor filler (R203: "polls `FF 09` fail at the second"). -/
theorem test_read_bad_token :
    seen (fun t => (response t, t.cs, t.sidx, t.xcount)) (exec (.hostRead 0 0 1) (ready (ign ++ [0x00, 0xFF, 0x09, 0xFF]))) =
      some ((1, 0x00, 0), 1, 0, 11) := by decide
/-- R204, R216: a sector that ends in `FE FF` is stored in order; 7 + 1 + 1 + 512 + 2 + 1 exchanges. -/
theorem test_read_stores :
    seen (fun t => (response t, t.cs, t.xcount, t.buf))
      (exec (.hostRead 0 0 1)
        (ready (ign ++ [0x00, 0xFE] ++ List.replicate 510 0x00 ++ [0xFE, 0xFF] ++ [0x12, 0x34, 0x56]))) =
      some ((0, 0x00, 0), 1, 524, [(510, 0xFE), (511, 0xFF)]) := by decide +kernel
/-- The data response `0D` aborts (R211) after 512 payload bytes. -/
theorem test_write_rejected :
    seen (fun t => (response t, t.cs, t.xcount))
      (exec (.hostWrite 0 0 1) (ready (ign ++ [0x00] ++ List.replicate 515 0xFF ++ [0x0D, 0xFF]))) =
      some ((1, 0x00, 0), 1, 525) := by decide +kernel
/-- R214, R216: accepted, one busy byte, not-busy; the last buffer byte goes out before the two dummy CRC bytes. -/
theorem test_write_sends :
    seen (fun t => (response t, t.cs, t.xcount, t.log.take 10))
      (exec (.hostWrite 0 0 1)
        { ready (ign ++ [0x00] ++ List.replicate 515 0x11 ++ [0xE5, 0x00, 0xFF, 0x22, 0x33]) with buf := [(511, 0x42)] }) =
      some ((0, 0x00, 0), 1, 528, [.x 0xFF 0x33, .sel 1, .x 0xFF 0x22, .x 0xFF 0xFF, .x 0xFF 0x00, .x 0xFF 0xE5, .x 0xFF 0x11, .x 0xFF 0x11,
        .x 0x42 0x11, .memRead 511 0x42]) := by decide +kernel
/-- Q3, Q4. -/
theorem test_sector_size : seen response (exec (.ioctlGetSectorSize 0) (ready [])) = some (0, 0x00, 512) := by decide
theorem test_sector_size_not_ready : seen response (exec (.ioctlGetSectorSize 0) (fresh [])) = some (3, 0x01, 0) := by decide
/-- Q5, Q6. -/
theorem test_block_size : seen response (exec (.ioctlGetBlockSize 0) (ready [])) = some (0, 0x00, 1) := by decide
theorem test_block_size_bad_unit : seen response (exec (.ioctlGetBlockSize 1) (ready [])) = some (4, 0x01, 0) := by decide
/-- Q7, Q8. -/
theorem test_sync : seen response (exec (.ioctlCtrlSync 0) (ready [])) = some (0, 0x00, 0) := by decide
theorem test_sync_not_ready : seen response (exec (.ioctlCtrlSync 0) (fresh [])) = some (3, 0x01, 0) := by decide
/-- Q10, Q17: illegal requests. -/
theorem test_illegal_query : seen response (step ((fresh []).withFetchWord 88 0x400010000000000000000)) = some (4, 0x01, 0) := by decide
theorem test_illegal_op : seen response (step ((ready []).withFetchWord 88 0x500000000000000000000)) = some (4, 0x00, 0) := by decide

/-! ### Witnesses: one for each statement with hypotheses, meeting all of them

The name after `witness_` is the statement's; a statement with several clauses has a witness for each. -/

/-- A reply at the first poll, at the last poll of a bound of 4, and none within it. -/
def firstPoll (r : Byte) : Reply := .answered ign [] r
def lastPoll (r : Byte) : Reply := .answered ign [0xFF, 0x80, 0xFF] r
def noReply : Reply := .silent ign [0xFF, 0xFF, 0xFF, 0xC1] 0x00

def call (op : BitVec 3) (unit query : Byte) (sector count : Word) : HostCall := ⟨⟨op, unit, query, sector, count⟩, none⟩
def asked (c : HostCall) (s : State) : State := { s with host := [c] }

theorem witness_StepRunsDecodedRequest :
    (let s := asked (call 2 0 9 0xFFFFFFFF 2) (ready [])
     s.phase = .idle ∧ s.host = [call 2 0 9 0xFFFFFFFF 2] ∧
       decodeRequest (call 2 0 9 0xFFFFFFFF 2).req = .ok (.hostRead 0 0xFFFFFFFF 2)) := by decide

theorem witness_StepRunsDecodedFrame :
    (let s := { fresh [] with phase := .cDesel, idx := 24, arg := 0xFFFFFFFF, crc := 0x01 }
     s.phase = .cDesel ∧ decodeFrame ⟨s.idx, s.arg, s.crc⟩ = .ok (.cmd24 0xFFFFFFFF)) := by decide

theorem witness_IdleEngineWaits : (fresh []).phase = .idle ∧ (fresh []).host = [] := by decide

theorem witness_RequestsAcceptedOnlyInIdle :
    (let s := asked (call 1 0 0 0 0) { ready [] with phase := .rdCmd }
     s.phase ≠ .idle ∧ step s = .next (enterCommand 17 s.sect s)) := ⟨by decide, rfl⟩

theorem witness_StepKeepsConfiguration : step (fresh []) = .next (fresh []) := rfl

theorem witness_ReservedOpIsParameterError :
    ∀ op ∈ [5, 6, 7], (let s := asked (call op 0 0 0 0) (ready [])
      s.phase = .idle ∧ s.host = [call op 0 0 0 0] ∧
        ((call op 0 0 0 0).req.op = 5 ∨ (call op 0 0 0 0).req.op = 6 ∨ (call op 0 0 0 0).req.op = 7)) := by decide

/-- One request for each branch: bad unit, unknown query, and the three queries. -/
theorem witness_IoctlTestsInOrder :
    ∀ q ∈ [call 4 1 1 0 0, call 4 0 1 0 0, call 4 0 4 0 0, call 4 0 255 0 0, call 4 0 0 0 0, call 4 0 2 0 0, call 4 0 3 0 0],
      (asked q (ready [])).phase = .idle ∧ (asked q (fresh [])).host = [q] ∧ q.req.op = 4 := by decide

/-- A state inside READ, one byte before the end of its second sector. -/
def midRead : State :=
  { ready [0x77] with phase := .rdData, cs := 0, idx := 17, arg := 1, crc := 0x01, resp := 0, sect := 1, sidx := 1, bcnt := 511, pcnt := 1,
                      op := 2, count := 2, unit := 0 }

theorem midRead_inv : Inv midRead := by constructor <;> decide

theorem next_of_seen (o : Host.Outcome State Fault Refusal) (h : (seen (fun _ => ()) o).isSome = true) : ∃ t, o = .next t := by
  cases o with
  | next t => exact ⟨t, rfl⟩
  | fault r => simp [seen] at h
  | refused r => simp [seen] at h

theorem witness_StepKeepsInvariant : Inv midRead ∧ ∃ t, step midRead = .next t :=
  ⟨midRead_inv, next_of_seen _ (by decide +kernel)⟩
theorem witness_InvariantNeverStops : Inv midRead := midRead_inv
theorem witness_TickKeepsInvariant : Inv midRead := midRead_inv

theorem witness_OperationsEndDeselected :
    (let s := asked (call 3 0 0 7 1) (ready [])
     s.phase = .idle ∧ s.host = [call 3 0 0 7 1] ∧ s.cs = 1 ∧ ∃ t, step s = .next t) := ⟨rfl, rfl, rfl, _, rfl⟩

theorem witness_OperationsKeepBusDiscipline :
    (let s := asked (call 0 0 0 0 0) (fresh [])
     s.cfg.valid = true ∧ s.phase = .idle ∧ s.host = [call 0 0 0 0 0] ∧ lineState s.log = some (.rested 0) ∧ ∃ t, step s = .next t) :=
  ⟨by decide, rfl, rfl, rfl, _, rfl⟩

theorem witness_SequencerReachesBigStep :
    (let s := asked (call 2 0 0 5 1) (ready [])
     s.phase = .idle ∧ s.host = [call 2 0 0 5 1]) := by decide

theorem witness_SequencerReachesCommand :
    (let s := { fresh [] with phase := .cDesel, idx := 8, arg := 0x1AA, crc := 0x87, resp := 0xFF }
     s.phase = .cDesel ∧ decodeFrame (descriptor s) = .ok .cmd8 ∧ s.resp = 0xFF ∧ s.pcnt = 0) := by decide

/-- A reply at the first poll, at the last one, none, and a zero bound; with the timeout clause's hypothesis on the last two. -/
theorem witness_SendCommandFollowsReply :
    (firstPoll 0x7F).good 1 = true ∧ (lastPoll 0x00).good 4 = true ∧ noReply.good 4 = true ∧ noReply.line = 1 ∧
      (Reply.silent ign [] 0xFF).good 0 = true ∧ (Reply.silent ign [] 0xFF).line = 1 ∧
      (fresh (noReply.bytes ++ [0x12])).card = noReply.bytes ++ [0x12] := by decide

theorem witness_EveryCardReplies : 8 + 2 ≤ (ign ++ [0x80, 0xFF, 0x00]).length := by decide

/-- For the wire commands: the replies at the values where the response handling changes. -/
theorem witness_Cmd0PassesOnlyOnIdleCode :
    ∀ r ∈ [firstPoll 0x00, firstPoll 0x01, lastPoll 0x02, .silent ign [0xFF, 0xFF, 0xFF, 0xFF, 0xFF, 0xFF] 0],
      r.good cfg.nRespReset = true ∧ (fresh (r.bytes ++ [0x33])).card = r.bytes ++ [0x33] := by decide

theorem witness_Cmd8ClassifiesByEcho :
    (∀ r ∈ [firstPoll 0x00, lastPoll 0x02, noReply],
      r.good cfg.nResp = true ∧ (fresh (r.bytes ++ [])).card = r.bytes ++ [] ∧ r.returned ≠ 0x01) ∧
    (∀ r ∈ [firstPoll 0x01, lastPoll 0x01], ∀ d ∈ [0xAA#8, 0xAB#8],
      r.good cfg.nResp = true ∧ (fresh (r.bytes ++ 0 :: 0 :: 0x01 :: d :: [])).card = r.bytes ++ 0 :: 0 :: 0x01 :: d :: [] ∧
        r.returned = 0x01) := by decide

theorem witness_Cmd55AbortsAboveIdleCode :
    ∀ r ∈ [firstPoll 0x00, firstPoll 0x01, lastPoll 0x02, noReply],
      r.good cfg.nResp = true ∧ (fresh (r.bytes ++ [])).card = r.bytes ++ [] := by decide

theorem witness_Acmd41EndsLoopOnlyOnReady :
    ∀ r ∈ [firstPoll 0x00, lastPoll 0x01, noReply],
      r.good cfg.nResp = true ∧ (fresh (r.bytes ++ [])).card = r.bytes ++ [] := by decide

theorem witness_Cmd1SucceedsOnlyOnReady :
    ∀ r ∈ [firstPoll 0x00, lastPoll 0x01, noReply],
      r.good cfg.nResp = true ∧ (fresh (r.bytes ++ [])).card = r.bytes ++ [] := by decide

theorem witness_Cmd58LatchesCapacityBit :
    (∀ r ∈ [firstPoll 0x01, noReply], r.good cfg.nResp = true ∧ (fresh (r.bytes ++ [])).card = r.bytes ++ [] ∧ r.returned ≠ 0x00) ∧
    (∀ a ∈ [0x40#8, 0xBF#8],
      (lastPoll 0).good cfg.nResp = true ∧
        (fresh ((lastPoll 0).bytes ++ a :: 0 :: 0 :: 0 :: [])).card = (lastPoll 0).bytes ++ a :: 0 :: 0 :: 0 :: [] ∧
        (lastPoll 0).returned = 0x00) := by decide

theorem witness_Cmd17ContinuesOnlyOnReady :
    ∀ r ∈ [firstPoll 0x00, lastPoll 0x01, noReply],
      r.good cfg.nResp = true ∧ (ready (r.bytes ++ [])).card = r.bytes ++ [] := by decide

theorem witness_Cmd24ContinuesOnlyOnReady :
    ∀ r ∈ [firstPoll 0x00, lastPoll 0x01, noReply],
      r.good cfg.nResp = true ∧ (ready (r.bytes ++ [])).card = r.bytes ++ [] := by decide

theorem witness_WireCommandsFrame :
    ∀ i ∈ [Instr.cmd0, .cmd8, .cmd55, .acmd41 true, .cmd1, .cmd58, .cmd17 1, .cmd24 1],
      ∃ t, exec i (fresh []) = .next t := by
  intro i hi
  simp only [List.mem_cons, List.not_mem_nil, or_false] at hi
  rcases hi with h | h | h | h | h | h | h | h <;> subst h <;> exact ⟨_, rfl⟩

theorem witness_InitializeInvalidUnit : (1 : Byte) ≠ unitValid ∧ (255 : Byte) ≠ unitValid := by decide

theorem witness_InitializeEndsReadyOrFailed :
    ((ready []).status = 0x00 ∨ (ready []).status = 0x01) ∧ ((fresh []).status = 0x00 ∨ (fresh []).status = 0x01) := by decide

theorem witness_InitializeFrame :
    (∃ t, exec (.hostInitialize 0) (fresh []) = .next t) ∧ ∃ t, exec (.hostInitialize 7) (fresh []) = .next t := ⟨⟨_, rfl⟩, _, rfl⟩

theorem witness_InitializeFailsAtGoIdle :
    ∀ r ∈ [firstPoll 0x00, .silent ign [0xFF, 0xFF, 0xFF, 0xFF, 0xFF, 0xFF] 0],
      (List.replicate 10 0x55#8).length = cfg.nPwrup ∧ r.good cfg.nRespReset = true ∧ r.returned ≠ 0x01 ∧
        (ready (List.replicate 10 0x55 ++ r.bytes ++ 0 :: [])).card = List.replicate 10 0x55 ++ r.bytes ++ 0 :: [] := by decide

/-- Openings of a V2 card and of a legacy card. -/
def openingV2 : Opening := ⟨List.replicate 10 0xFF, lastPoll 0x01, firstPoll 0x01, [0, 0, 0x01, 0xAA]⟩
def openingV1 : Opening := ⟨List.replicate 10 0xFF, firstPoll 0x01, noReply, []⟩
/-- Iterations that wait: an idle answer, and none. -/
def waiting : List Round := [⟨firstPoll 0x01, firstPoll 0x01⟩, ⟨firstPoll 0x00, noReply⟩]
def ocr : OcrAnswer := ⟨firstPoll 0x00, [0xC0, 0xFF, 0x80, 0x00]⟩

/-- A V2 card at the last iteration the bound allows, and a legacy card at the first. -/
theorem witness_InitializeSucceedsByLoop :
    (openingV2.good cfg = true ∧ waitingRounds cfg waiting = true ∧ waiting.length < cfg.nAcmd ∧
      (Round.mk (firstPoll 0x01) (firstPoll 0x00)).begun cfg = true ∧ (Round.mk (firstPoll 0x01) (firstPoll 0x00)).op.returned = 0x00 ∧
      (openingV2.cardType = .v2 ↔ (some ocr).isSome = true) ∧ ocr.good cfg = true) ∧
    (openingV1.good cfg = true ∧ waitingRounds cfg [] = true ∧ 0 < cfg.nAcmd ∧
      (openingV1.cardType = .v2 ↔ (none : Option OcrAnswer).isSome = true)) := by decide

/-- CMD1 answered `00`, and anything else; after two waiting iterations, and none. -/
theorem witness_InitializeFallsBackOnce :
    openingV1.good cfg = true ∧ openingV2.good cfg = true ∧ waitingRounds cfg waiting = true ∧ waiting.length < cfg.nAcmd ∧
      (firstPoll 0x02).good cfg.nResp = true ∧ 1 < (firstPoll 0x02).returned.toNat ∧
      noReply.good cfg.nResp = true ∧ 1 < noReply.returned.toNat ∧
      (firstPoll 0x00).good cfg.nResp = true ∧ (firstPoll 0x00).returned = 0x00 ∧
      (firstPoll 0x01).good cfg.nResp = true ∧ (firstPoll 0x01).returned ≠ 0x00 := by decide

theorem witness_InitializeTimesOutInLoop :
    (let ws := ⟨firstPoll 0x00, firstPoll 0x05⟩ :: waiting
     openingV2.good cfg = true ∧ waitingRounds cfg ws = true ∧ ws.length = cfg.nAcmd) ∧
    (waitingRounds cfg [] = true ∧ ([] : List Round).length = { cfg with nAcmd := 0 }.nAcmd) := by decide

theorem witness_InitializeExchangesBounded : ∃ t, exec (.hostInitialize 0) (fresh []) = .next t := ⟨_, rfl⟩

theorem witness_QueriesAnswerByStatus : (ready []).status.getLsbD 0 = false ∧ (fresh []).status.getLsbD 0 = true := by decide

/-- Each pre-check as the first that fails: bad unit with count 0, count 0 when NOT-INITIALIZED, NOT-INITIALIZED. -/
theorem witness_TransferPrechecks :
    (3 : Byte) ≠ unitValid ∧ (0 : Byte) = unitValid ∧ (1 : Word) ≠ 0 ∧ (fresh []).status.getLsbD 0 = true := by decide

theorem witness_NotInitializedMakesNoTraffic :
    ∀ c ∈ [call 2 0 0 0 1, call 3 0 0 0 0, call 4 1 0 0 0, call 4 0 1 0 0],
      (asked c (fresh [])).phase = .idle ∧ (asked c (fresh [])).host = [c] ∧
        (c.req.op = 2 ∨ c.req.op = 3 ∨ c.req.op = 4) ∧ (asked c (fresh [])).status.getLsbD 0 = true := by decide

/-- A sector read with the token at the last poll, and payload bytes that look like a token. -/
def readOk : ReadAnswer := ⟨lastPoll 0x00, [0xFF, 0xFF, 0xFF, 0xFF], List.replicate 512 0xFE, [0, 0], 0xFF⟩

theorem readOk_good : readOk.good cfg = true := by decide +kernel

theorem witness_ReadStoresEverySector :
    (let s := ready (readBytes [readOk, readOk])
     s.status.getLsbD 0 = false ∧ (2 : Word) ≠ 0 ∧ [readOk, readOk].length = (2 : Word).toNat ∧
       [readOk, readOk].all (ReadAnswer.good s.cfg) = true ∧ s.buf.wf = true ∧ s.card = readBytes [readOk, readOk] ++ []) :=
  ⟨by decide, by decide, by decide, by simpa [ready, fresh] using readOk_good, by decide, (List.append_nil _).symm⟩

/-- The three ways a sector fails, first and after one good sector. -/
theorem witness_ReadFailsAtSector :
    ∀ bad ∈ [ReadFailure.refused (firstPoll 0x01), .refused noReply, .badToken (firstPoll 0x00) [0xFF, 0xFF, 0xFF, 0xFF] 0xFD,
        .noToken (firstPoll 0x00) [0xFF, 0xFF, 0xFF, 0xFF, 0xFF]],
      bad.good cfg = true ∧ ([] : List ReadAnswer).length < (1 : Word).toNat ∧ [readOk].length < (2 : Word).toNat ∧
        (ready (bad.bytes ++ [0])).status.getLsbD 0 = false ∧ (ready (bad.bytes ++ [0])).buf.wf = true := by decide

theorem witness_ReadOutcome : (ready []).status.getLsbD 0 = false ∧ (0xFFFFFFFF : Word) ≠ 0 ∧ (ready []).buf.wf = true := by decide

/-- A sector written with the not-busy byte at the last poll. -/
def writeOk : WriteAnswer :=
  ⟨⟨firstPoll 0x00, 0xFF, List.replicate 512 0xFF, [0xFF, 0xFF], 0xE5⟩, [0x00, 0xFE, 0x00], 0xFF, 0xFF⟩

theorem writeOk_good : writeOk.good cfg = true := by decide +kernel

theorem witness_WriteSendsEverySector :
    (let s := ready (writeBytes [writeOk])
     s.status.getLsbD 0 = false ∧ (1 : Word) ≠ 0 ∧ [writeOk].length = (1 : Word).toNat ∧
       [writeOk].all (WriteAnswer.good s.cfg) = true ∧ s.card = writeBytes [writeOk] ++ []) :=
  ⟨by decide, by decide, by decide, by simpa [ready, fresh] using writeOk_good, (List.append_nil _).symm⟩

/-- The three ways a sector fails. -/
theorem witness_WriteFailsAtSector :
    ∀ bad ∈ [WriteFailure.refused (firstPoll 0x01), .rejected { writeOk.block with response := 0x0D },
        .stillBusy writeOk.block [0x00, 0x00, 0x00, 0xFE]],
      bad.good cfg = true ∧ ([] : List WriteAnswer).length < (1 : Word).toNat ∧ [writeOk].length < (2 : Word).toNat := by decide +kernel

theorem witness_WriteOutcome : (ready []).status.getLsbD 0 = false ∧ (1 : Word) ≠ 0 := by decide

theorem witness_TransferExchangesBounded :
    (∃ t, exec (.hostRead 0 7 2) (ready []) = .next t) ∧ ∃ t, exec (.hostWrite 0 7 2) (ready []) = .next t := by
  constructor <;> refine ⟨_, rfl⟩

/-- A buffer whose last byte is 0x42, written; then read back into another buffer. -/
def beforeWrite : State := { ready (writeBytes [writeOk]) with buf := [(511, 0x42)] }
def afterWrite : State := writeSectors unitValid 7 1 { beforeWrite with sidx := 0 }
def readBack : ReadAnswer := { readOk with payload := List.replicate 511 0 ++ [0x42] }

theorem witness_WriteThenReadRoundTrips :
    beforeWrite.status.getLsbD 0 = false ∧ (1 : Word) ≠ 0 ∧ [writeOk].length = (1 : Word).toNat ∧
      [writeOk].all (WriteAnswer.good beforeWrite.cfg) = true ∧ beforeWrite.card = writeBytes [writeOk] ++ [] ∧
      exec (.hostWrite unitValid 7 1) beforeWrite = .next afterWrite ∧
      afterWrite.log = afterWrite.log.reverse.reverse ++ beforeWrite.log ∧
      Memory.wf [(0, 0x99), (511, 0x01)] = true ∧ [readBack].length = (1 : Word).toNat ∧
      [readBack].all (ReadAnswer.good beforeWrite.cfg) = true ∧
      [readBack].map ReadAnswer.payload = (blocksSent afterWrite.log.reverse).map Prod.snd :=
  ⟨by decide, by decide, by decide, by simpa [beforeWrite, ready, fresh] using writeOk_good, (List.append_nil _).symm, rfl,
    by simp [beforeWrite, ready, fresh, State.reset], by decide, by decide, by decide +kernel, by decide +kernel⟩

theorem witness_OnlyInitializeChangesMode :
    (∀ u, Instr.hostStatus 0 ≠ .hostInitialize u) ∧ (∀ u, Instr.cmd58 ≠ .hostInitialize u) ∧
      ∃ t, exec .cmd58 (ready []) = .next t := ⟨fun _ h => (nomatch h), fun _ h => (nomatch h), _, rfl⟩

/-- For each clause an instruction it speaks of. -/
theorem witness_BufferPortDiscipline :
    (∃ t, exec (.hostRead 0 0 1) (ready []) = .next t) ∧ (∃ t, exec (.hostWrite 0 0 1) (ready []) = .next t) ∧
      (∀ u a c, Instr.hostWrite 0 0 1 ≠ .hostRead u a c) ∧ (∀ u a c, Instr.hostRead 0 0 1 ≠ .hostWrite u a c) :=
  ⟨⟨_, rfl⟩, ⟨_, rfl⟩, fun _ _ _ h => (nomatch h), fun _ _ _ h => (nomatch h)⟩

end Sys2Proof.Tests
end

/-! PROOFS. Nothing stops the machine (00_scope.md R15): every instruction answers a next state, and in a state that meets the
invariant neither the fault `bufferBounds` nor the refusal `noCaller` is reached. -/

namespace Sys2Proof.Machine

/-! ### Instructions -/

/-- READ either fails a pre-check or runs its sector loop (R201, R206). -/
theorem execHostRead_completes (unit : Byte) (sector count : Word) (s : State) :
    ∃ t, execHostRead unit sector count s = .next t := by
  unfold execHostRead
  cases transferCheck unit count s with
  | some e => exact ⟨_, rfl⟩
  | none => exact ⟨_, rfl⟩

/-- WRITE either fails a pre-check or runs its sector loop (R201, R214). -/
theorem execHostWrite_completes (unit : Byte) (sector count : Word) (s : State) :
    ∃ t, execHostWrite unit sector count s = .next t := by
  unfold execHostWrite
  cases transferCheck unit count s with
  | some e => exact ⟨_, rfl⟩
  | none => exact ⟨_, rfl⟩

/-- Every instruction answers a next state: only READ and WRITE choose between two of them before they start. -/
theorem exec_completes (i : Instr) (s : State) : ∃ t, exec i s = .next t := by
  cases i with
  | hostRead unit sector count => exact execHostRead_completes unit sector count s
  | hostWrite unit sector count => exact execHostWrite_completes unit sector count s
  | cmd0 | cmd8 | cmd55 | acmd41 | cmd1 | cmd58 | cmd17 | cmd24 => exact ⟨_, rfl⟩
  | hostInitialize | hostStatus | ioctlCtrlSync | ioctlGetSectorSize | ioctlGetBlockSize => exact ⟨_, rfl⟩

/-! ### The sequencer's returns and buffer accesses -/

/-- `SendCommand` with one of the eight indices of R110 returns to a caller. -/
theorem returnCommand_completes {s : State} (h : commandIndices.contains s.idx = true) : ∃ t, returnCommand s = .next t := by
  simp only [commandIndices, List.contains_eq_mem, List.mem_cons, List.not_mem_nil, or_false, decide_eq_true_eq] at h
  rcases h with h | h | h | h | h | h | h | h <;> rw [returnCommand, h] <;> exact ⟨_, rfl⟩

/-- `ReadTrail` after CMD8 or CMD58 returns to a caller (R96). -/
theorem returnTrail_completes {s : State} (h : s.idx = idxIfCond ∨ s.idx = idxReadOcr) : ∃ t, returnTrail s = .next t := by
  rcases h with h | h <;> rw [returnTrail, h] <;> exact ⟨_, rfl⟩

/-- A byte of a sector below COUNT lies in the region R62 sizes. -/
theorem bufOffset_lt_bufSize {i j : Nat} {count : Word} (hi : i < count.toNat) (hj : j < sectorBytes) :
    bufOffset i j < bufSize count :=
  calc i * sectorBytes + j
    _ < (i + 1) * sectorBytes := by rw [Nat.succ_mul]; exact Nat.add_lt_add_left hj _
    _ ≤ count.toNat * sectorBytes := Nat.mul_le_mul_right _ hi

/-- While a payload byte of a transfer is due, its buffer access does not fault. -/
theorem inBuffer_of_inv {s : State} (h : Inv s) (hp : s.phase = .rdData ∨ s.phase = .wrData) (t : State) :
    inBuffer s t = .next t := by
  have htransfer : inTransfer s = true := by rcases hp with hp | hp <;> simp [inTransfer, hp, Phase.ofTransfer]
  obtain ⟨-, -, hsidx⟩ := h.transfer htransfer
  obtain ⟨-, hbcnt⟩ := h.bytes
  exact if_pos (bufOffset_lt_bufSize hsidx (hbcnt hp))

/-! ### Steps -/

/-- A request that leaves IDLE is turned away, moves to its first label, or is answered at once. -/
theorem startRequest_completes (s : State) : ∃ t, startRequest s = .next t := by
  unfold startRequest
  split
  · exact ⟨_, rfl⟩
  · split <;> exact ⟨_, rfl⟩
  · split <;> exact ⟨_, rfl⟩
  · exact exec_completes _ s
  · exact ⟨_, rfl⟩

/-- Where the invariant holds the sequencer does not stop. The labels that could stop are those at which `SendCommand` or
`ReadTrail` may return and those that access the buffer; RD_TOKEN, WR_BUSY and IDLE choose between next states. -/
theorem tick_completes_of_inv {s : State} (h : Inv s) : ∃ t, tick s = .next t := by
  cases hp : s.phase <;> simp only [tick, hp]
  case idle =>
    cases s.host with
    | nil => exact ⟨_, rfl⟩
    | cons c rest => exact startRequest_completes _
  case cPoll =>
    have hidx : commandIndices.contains (pollOnce s).idx = true := h.command (by rw [hp]; rfl)
    split
    · exact ⟨_, rfl⟩
    · exact returnCommand_completes hidx
  case cToIdle =>
    have hidx : commandIndices.contains (xchg idleByte s).idx = true := h.command (by rw [hp]; rfl)
    exact returnCommand_completes hidx
  case t3 =>
    have hidx : (readTrail3 s).idx = idxIfCond ∨ (readTrail3 s).idx = idxReadOcr := h.trail (by rw [hp]; rfl)
    exact returnTrail_completes hidx
  case rdData => exact ⟨_, inBuffer_of_inv h (.inl hp) _⟩
  case wrData => exact ⟨_, inBuffer_of_inv h (.inr hp) _⟩
  case rdToken =>
    split
    · exact ⟨_, rfl⟩
    · split <;> exact ⟨_, rfl⟩
  case wrBusy => split <;> exact ⟨_, rfl⟩
  all_goals exact ⟨_, rfl⟩

/-- Where the invariant holds the machine does not stop: in IDLE and at C_DESEL it runs an instruction or rejects the request, and
every other step is one of the sequencer. -/
theorem step_completes_of_inv {s : State} (h : Inv s) : ∃ t, step s = .next t := by
  unfold step
  split
  · split
    · exact ⟨_, rfl⟩
    · split
      · exact exec_completes _ _
      · exact ⟨_, rfl⟩
  · split
    · exact exec_completes _ s
    · exact tick_completes_of_inv h
  · exact tick_completes_of_inv h

/-! ### The obligations -/

/-- Settles O8: `exec_completes`, one case per instruction. -/
theorem everyInstructionCompletes : Obligations.EveryInstructionCompletes :=
  exec_completes

/-- Settles O12: the invariant's clauses on IDX, SIDX and BCNT rule out the refusal and the fault at the labels that raise them. -/
theorem invariantNeverStops : Obligations.InvariantNeverStops :=
  fun _ => step_completes_of_inv

end Sys2Proof.Machine

/-! PROOFS. The two grains agree (10_state.md R28): one lemma per procedure and loop says that the sequencer, from the label at
which it begins, reaches the state the big step gives; the operations are chains of these. -/

namespace Sys2Proof.Machine

/-! ### Runs of the sequencer -/

/-- One call of the sequencer that answers a next state. -/
def Ticks (s t : State) : Prop := tick s = .next t

/-- The sequencer gets from one state to another in some number of calls, none allowed. -/
abbrev Reaches : State → State → Prop := Relation.ReflTransGen Ticks

/-- The same in at least one call. -/
abbrev ReachesAfter : State → State → Prop := Relation.TransGen Ticks

/-- What `Reaches` says in the model's own terms. -/
theorem Reaches.exists_ticks {s t : State} (h : Reaches s t) : ∃ n, ticks n s = .next t := by
  induction h using Relation.ReflTransGen.head_induction_on with
  | refl => exact ⟨0, rfl⟩
  | head h _ ih =>
    obtain ⟨n, hn⟩ := ih
    exact ⟨n + 1, (ticks_succ h).trans hn⟩

theorem ReachesAfter.exists_ticks {s t : State} (h : ReachesAfter s t) : ∃ n, 0 < n ∧ ticks n s = .next t := by
  obtain ⟨u, hu, hut⟩ := Relation.TransGen.head'_iff.mp h
  obtain ⟨n, hn⟩ := Reaches.exists_ticks hut
  exact ⟨n + 1, n.succ_pos, (ticks_succ hu).trans hn⟩

/-- What every call keeps, a run keeps. -/
theorem Reaches.preserves {P : State → Prop} (hP : ∀ s t, P s → tick s = .next t → P t) {s t : State} (h : Reaches s t)
    (hs : P s) : P t := by
  induction h with
  | refl => exact hs
  | tail _ ht ih => exact hP _ _ ih ht

/-- A state stands at its own label. -/
theorem goto_self {p : Phase} {s : State} (h : s.phase = p) : goto p s = s := by rw [goto, ← h]

/-! ### SendCommand (R143 to R148) -/

theorem ticks_cDesel (s : State) : Ticks (goto .cDesel s) (goto .cResync (select false s)) := rfl
theorem ticks_cResync (s : State) : Ticks (goto .cResync s) (goto .cSel (xchg idleByte s)) := rfl
theorem ticks_cSel (s : State) : Ticks (goto .cSel s) (goto .cB0 (select true s)) := rfl
theorem ticks_cB0 (s : State) : Ticks (goto .cB0 s) (goto .cB1 (xchg (commandByte s.idx) s)) := rfl
theorem ticks_cB1 (s : State) : Ticks (goto .cB1 s) (goto .cB2 (xchg (wordByte3 s.arg) s)) := rfl
theorem ticks_cB2 (s : State) : Ticks (goto .cB2 s) (goto .cB3 (xchg (wordByte2 s.arg) s)) := rfl
theorem ticks_cB3 (s : State) : Ticks (goto .cB3 s) (goto .cB4 (xchg (wordByte1 s.arg) s)) := rfl
theorem ticks_cB4 (s : State) : Ticks (goto .cB4 s) (goto .cB5 (xchg (wordByte0 s.arg) s)) := rfl
theorem ticks_cB5 (s : State) : Ticks (goto .cB5 s) (pollHead (xchg s.crc s)) := rfl
theorem ticks_cToDesel (s : State) : Ticks (goto .cToDesel s) (goto .cToIdle (select false s)) := rfl

/-- The end of the timeout path (R146). -/
theorem tick_cToIdle (s : State) : tick (goto .cToIdle s) = returnCommand (goto .cToIdle (xchg idleByte s)) := rfl

/-- C_POLL: a filler goes back to the loop head, any other byte returns to the caller (R143). -/
theorem tick_cPoll (s : State) :
    tick (goto .cPoll s) =
      if isFiller (pollOnce s).resp then .next (pollHead (pollOnce s)) else returnCommand (goto .cPoll (pollOnce s)) := rfl

/-- The six bytes of the frame, up to the loop head of response polling. -/
theorem sendFrame_reaches (s : State) : Reaches (goto .cB0 s) (pollHead (sendFrame s)) := by
  have hrun := (((((Relation.TransGen.single (ticks_cB0 s)).tail (ticks_cB1 _)).tail (ticks_cB2 _)).tail (ticks_cB3 _)).tail
    (ticks_cB4 _)).tail (ticks_cB5 _)
  simpa only [xchg_arg, xchg_crc, sendFrame] using hrun.to_reflTransGen

/-- Response polling with `n` polls left, to the return of `SendCommand` (R143, R145, R146). -/
theorem pollHead_reaches (n : Nat) {s t : State} (hn : s.pcnt + n = pollBound s.cfg s.idx)
    (hret : ∀ p, returnCommand (goto p (pollResponse n s)) = .next t) : Reaches (pollHead s) t := by
  induction n generalizing s with
  | zero =>
    rw [pollHead, if_neg (by omega)]
    exact .head (ticks_cToDesel s) (.single ((tick_cToIdle _).trans (hret .cToIdle)))
  | succ n ih =>
    rw [pollHead, if_pos (by omega)]
    by_cases hf : isFiller (pollOnce s).resp = true
    · rw [pollResponse, if_pos hf] at hret
      exact .head ((tick_cPoll s).trans (if_pos hf)) (ih (by simp only [pollOnce_pcnt, pollOnce_cfg, pollOnce_idx]; omega) hret)
    · rw [pollResponse, if_neg hf] at hret
      exact .single ((tick_cPoll s).trans ((if_neg hf).trans (hret .cPoll)))

/-- `SendCommand` from its entry to its return: the caller is handed the state `command` gives. -/
theorem enterCommand_reaches {index : BitVec 6} {arg : Word} {s t : State}
    (hret : ∀ p, returnCommand (goto p (command index arg s)) = .next t) : ReachesAfter (enterCommand index arg s) t := by
  have hpoll : Reaches (pollHead (sendFrame (select true (deselect (loadDescriptor index arg s))))) t :=
    pollHead_reaches (pollBound s.cfg index) (by simp [sendFrame, deselect]) hret
  exact .head' (ticks_cDesel _) <| .head (ticks_cResync _) <| .head (ticks_cSel _) <| (sendFrame_reaches _).trans hpoll

/-! ### Returns of SendCommand and ReadTrail (R149) -/

theorem returnCommand_cmd0 {s : State} (h : s.idx = idxGoIdle) : returnCommand s = .next (afterCmd0 s) := by
  rw [returnCommand, h]; rfl
theorem returnCommand_cmd8 {s : State} (h : s.idx = idxIfCond) : returnCommand s = .next (afterCmd8 s) := by
  rw [returnCommand, h]; rfl
theorem returnCommand_cmd55 {s : State} (h : s.idx = idxApp) : returnCommand s = .next (afterCmd55 s) := by
  rw [returnCommand, h]; rfl
theorem returnCommand_acmd41 {s : State} (h : s.idx = idxSdOpCond) : returnCommand s = .next (afterAcmd41 s) := by
  rw [returnCommand, h]; rfl
theorem returnCommand_cmd1 {s : State} (h : s.idx = idxOpCond) : returnCommand s = .next (afterCmd1 s) := by
  rw [returnCommand, h]; rfl
theorem returnCommand_cmd58 {s : State} (h : s.idx = idxReadOcr) : returnCommand s = .next (afterCmd58 s) := by
  rw [returnCommand, h]; rfl
theorem returnCommand_cmd17 {s : State} (h : s.idx = idxReadBlock) : returnCommand s = .next (afterCmd17 s) := by
  rw [returnCommand, h]; rfl
theorem returnCommand_cmd24 {s : State} (h : s.idx = idxWriteBlock) : returnCommand s = .next (afterCmd24 s) := by
  rw [returnCommand, h]; rfl

theorem returnTrail_cmd8 {s : State} (h : s.idx = idxIfCond) : returnTrail s = .next (afterR7 s) := by
  rw [returnTrail, h]; rfl
theorem returnTrail_cmd58 {s : State} (h : s.idx = idxReadOcr) : returnTrail s = .next (afterOcr s) := by
  rw [returnTrail, h]; rfl

theorem ticks_t0 (s : State) : Ticks (goto .t0 s) (goto .t1 (readTrail0 s)) := rfl
theorem ticks_t1 (s : State) : Ticks (goto .t1 s) (goto .t2 (readTrail1 s)) := rfl
theorem ticks_t2 (s : State) : Ticks (goto .t2 s) (goto .t3 (readTrail2 s)) := rfl
theorem tick_t3 (s : State) : tick (goto .t3 s) = returnTrail (goto .t3 (readTrail3 s)) := rfl

/-- `ReadTrail` from its first exchange to its return (R150). -/
theorem readTrail_reaches {s t : State} (hret : returnTrail (goto .t3 (readTrail s)) = .next t) : Reaches (goto .t0 s) t :=
  .head (ticks_t0 s) <| .head (ticks_t1 _) <| .head (ticks_t2 _) <| .single ((tick_t3 _).trans hret)

/-! ### The wire commands -/

theorem runCmd0_reaches (s : State) : ReachesAfter (enterCommand idxGoIdle 0 s) (runCmd0 s) :=
  enterCommand_reaches fun _ => returnCommand_cmd0 (command_idx idxGoIdle 0 s)

theorem runCmd55_reaches (s : State) : ReachesAfter (enterCommand idxApp 0 s) (runCmd55 s) :=
  enterCommand_reaches fun _ => returnCommand_cmd55 (command_idx idxApp 0 s)

theorem runAcmd41_reaches (hcs : Bool) (s : State) :
    ReachesAfter (enterCommand idxSdOpCond (acmd41Arg hcs) s) (runAcmd41 hcs s) :=
  enterCommand_reaches fun _ => returnCommand_acmd41 (command_idx idxSdOpCond (acmd41Arg hcs) s)

theorem runCmd1_reaches (s : State) : ReachesAfter (enterCommand idxOpCond 0 s) (runCmd1 s) :=
  enterCommand_reaches fun _ => returnCommand_cmd1 (command_idx idxOpCond 0 s)

theorem runCmd17_reaches (arg : Word) (s : State) : ReachesAfter (enterCommand idxReadBlock arg s) (runCmd17 arg s) :=
  enterCommand_reaches fun _ => returnCommand_cmd17 (command_idx idxReadBlock arg s)

theorem runCmd24_reaches (arg : Word) (s : State) : ReachesAfter (enterCommand idxWriteBlock arg s) (runCmd24 arg s) :=
  enterCommand_reaches fun _ => returnCommand_cmd24 (command_idx idxWriteBlock arg s)

theorem afterR7_goto (p : Phase) (s : State) : afterR7 (goto p s) = afterR7 s := by
  by_cases h : echoMatches s.trail2 s.trail3 = true
  · simp [afterR7, beginAcmdLoop, acmdLoopHead, goto, h]
  · simp [afterR7, beginAcmdLoop, acmdLoopHead, goto, h]

/-- At I_R7 the trailing bytes of CMD8 are read and judged (R175). -/
theorem iR7_reaches {s : State} (hp : s.phase = .iR7) (hi : s.idx = idxIfCond) : Reaches s (afterR7 (readTrail s)) := by
  have henter : Ticks s (goto .t0 s) := by rw [Ticks, tick, hp]
  have hret : returnTrail (goto .t3 (readTrail s)) = .next (afterR7 (readTrail s)) := by
    rw [returnTrail_cmd8 (s := goto .t3 (readTrail s)) ((readTrail_idx s).trans hi), afterR7_goto]
  exact .head henter (readTrail_reaches hret)

/-- At I_OCR the OCR bytes of CMD58 are read (R180). -/
theorem iOcr_reaches {s : State} (hp : s.phase = .iOcr) (hi : s.idx = idxReadOcr) : Reaches s (afterOcr (readTrail s)) := by
  have henter : Ticks s (goto .t0 s) := by rw [Ticks, tick, hp]
  have hret : returnTrail (goto .t3 (readTrail s)) = .next (afterOcr (readTrail s)) :=
    returnTrail_cmd58 ((readTrail_idx s).trans hi)
  exact .head henter (readTrail_reaches hret)

theorem runCmd8_reaches (s : State) : ReachesAfter (enterCommand idxIfCond argIfCond s) (runCmd8 s) := by
  have hcommand : ReachesAfter (enterCommand idxIfCond argIfCond s) (afterCmd8 (command idxIfCond argIfCond s)) :=
    enterCommand_reaches fun _ => returnCommand_cmd8 (command_idx idxIfCond argIfCond s)
  have hidx : (afterCmd8 (command idxIfCond argIfCond s)).idx = idxIfCond := by rw [afterCmd8_spec]; simp
  rw [runCmd8]
  split
  case isTrue hp => exact hcommand.trans_left (iR7_reaches hp hidx)
  case isFalse => exact hcommand

theorem runCmd58_reaches (s : State) : ReachesAfter (enterCommand idxReadOcr 0 s) (runCmd58 s) := by
  have hcommand : ReachesAfter (enterCommand idxReadOcr 0 s) (afterCmd58 (command idxReadOcr 0 s)) :=
    enterCommand_reaches fun _ => returnCommand_cmd58 (command_idx idxReadOcr 0 s)
  have hidx : (afterCmd58 (command idxReadOcr 0 s)).idx = idxReadOcr := command_idx idxReadOcr 0 s
  rw [runCmd58]
  split
  case isTrue hp => exact hcommand.trans_left (iOcr_reaches hp hidx)
  case isFalse => exact hcommand

/-- The instruction a command index and argument name is written as that command's frame (R108, R110). -/
theorem encoded_of_decodeCommand {index : BitVec 6} {arg : Word} {i : Instr} (h : decodeCommand index arg = .ok i) :
    i.encoded = .frame (commandFrame index arg) := by
  unfold decodeCommand at h
  split_ifs at h <;> cases h <;> subst_vars <;> rfl

/-- Whatever wire command a frame decodes to, the sequencer runs it from the entry of `SendCommand` with that frame. -/
theorem decodeCommand_reaches {index : BitVec 6} {arg : Word} {i : Instr} (h : decodeCommand index arg = .ok i) (s : State) :
    ∃ t, exec i s = .next t ∧ ReachesAfter (enterCommand index arg s) t := by
  have hframe := encoded_of_decodeCommand h
  cases i <;> cases hframe
  case cmd0 => exact ⟨_, rfl, runCmd0_reaches s⟩
  case cmd8 => exact ⟨_, rfl, runCmd8_reaches s⟩
  case cmd55 => exact ⟨_, rfl, runCmd55_reaches s⟩
  case acmd41 hcs => exact ⟨_, rfl, runAcmd41_reaches hcs s⟩
  case cmd1 => exact ⟨_, rfl, runCmd1_reaches s⟩
  case cmd58 => exact ⟨_, rfl, runCmd58_reaches s⟩
  case cmd17 => exact ⟨_, rfl, runCmd17_reaches _ s⟩
  case cmd24 => exact ⟨_, rfl, runCmd24_reaches _ s⟩

/-- A frame that decodes carries the CRC byte of its index (R94). -/
theorem decodeFrame_ok {f : Frame} {i : Instr} (h : decodeFrame f = .ok i) :
    decodeCommand f.index f.arg = .ok i ∧ f.crc = crcFor f.index := by
  unfold decodeFrame at h
  split at h
  · next j hj =>
    split_ifs at h with hcrc
    cases h
    exact ⟨hj, hcrc⟩
  · cases h

/-! ### Deselect and the exits (R141, R181, R182, R256) -/

theorem ticks_dDesel (d : DeselCaller) (s : State) : Ticks (goto (.dDesel d) s) (goto (.dIdle d) (select false s)) := rfl
theorem ticks_dIdle (d : DeselCaller) (s : State) :
    Ticks (goto (.dIdle d) s) (returnDeselect d (goto (.dIdle d) (xchg idleByte s))) := rfl

/-- `Deselect` from its entry to its return. -/
theorem deselect_reaches (d : DeselCaller) (s : State) :
    Reaches (goto (.dDesel d) s) (returnDeselect d (goto (.dIdle d) (deselect s))) :=
  .head (ticks_dDesel d s) (.single (ticks_dIdle d _))

/-- Step 7 of INITIALIZE from its label (R181). -/
theorem iDone_reaches {s : State} (hp : s.phase = .iDone) : Reaches s (initDone s) := by
  have henter : Ticks s (goto (.dDesel .initDone) s) := by rw [Ticks, tick, hp]
  have hspeed : Ticks (goto .iSpeedUp (deselect s)) (initDone s) := rfl
  exact .head henter ((deselect_reaches _ s).tail hspeed)

/-- The failure exit of INITIALIZE from its label (R182). -/
theorem iFail_reaches {s : State} (hp : s.phase = .iFail) : Reaches s (initFail s) := by
  have henter : Ticks s (goto (.dDesel .initFail) s) := by rw [Ticks, tick, hp]
  exact .head henter (deselect_reaches _ s)

/-- The error exit of READ and WRITE from its label (R206, R214, R256). -/
theorem xFail_reaches {s : State} (hp : s.phase = .xFail) : Reaches s (errorExit .transferError s.unit s) := by
  have henter : Ticks s (goto (.dDesel .xFail) s) := by rw [Ticks, tick, hp]
  exact .head henter (deselect_reaches _ s)

/-! ### INITIALIZE (R183) -/

theorem ticks_iCmd0 (s : State) : Ticks (goto .iCmd0 s) (enterCommand idxGoIdle 0 s) := rfl
theorem ticks_iCmd8 {s : State} (hp : s.phase = .iCmd8) : Ticks s (enterCommand idxIfCond argIfCond s) := by rw [Ticks, tick, hp]
theorem ticks_iCmd55 {s : State} (hp : s.phase = .iCmd55) : Ticks s (enterCommand idxApp 0 s) := by rw [Ticks, tick, hp]
theorem ticks_iAcmd41 {s : State} (hp : s.phase = .iAcmd41) :
    Ticks s (enterCommand idxSdOpCond (acmd41Arg (s.ctype == .v2)) s) := by rw [Ticks, tick, hp]
theorem ticks_iCmd1 {s : State} (hp : s.phase = .iCmd1) : Ticks s (enterCommand idxOpCond 0 s) := by rw [Ticks, tick, hp]
theorem ticks_iCmd58 {s : State} (hp : s.phase = .iCmd58) : Ticks s (enterCommand idxReadOcr 0 s) := by rw [Ticks, tick, hp]

/-- The power-up idle bytes with `n` left (R173). -/
theorem powerUpHead_reaches (n : Nat) {s : State} (hn : s.pcnt + n = s.cfg.nPwrup) :
    Reaches (powerUpHead s) (goto .iCmd0 (powerUp n s)) := by
  induction n generalizing s with
  | zero => rw [powerUpHead, if_neg (by omega)]; exact .refl
  | succ n ih =>
    have hexchange : Ticks (goto .iPwrup s) (powerUpHead { xchg idleByte s with pcnt := s.pcnt + 1 }) := rfl
    rw [powerUpHead, if_pos (by omega)]
    exact .head hexchange (ih (by simp only [xchg_cfg]; omega))

/-- Step 1 (R173). -/
theorem busReset_reaches (s : State) : Reaches (goto .iSpeed s) (goto .iCmd0 (busReset s)) := by
  have hspeed : Ticks (goto .iSpeed s) (goto .iCshigh (setSpeed s.cfg.fSlow s)) := rfl
  have hhigh : Ticks (goto .iCshigh (setSpeed s.cfg.fSlow s))
    (powerUpHead { select false (setSpeed s.cfg.fSlow s) with pcnt := 0 }) := rfl
  exact .head hspeed (.head hhigh (powerUpHead_reaches _ (Nat.zero_add _)))

/-- Step 5 and its two exits (R179, R183). -/
theorem legacyFallback_reaches {s : State} (hp : s.phase = .iCmd1) : Reaches s (legacyFallback s) := by
  have hcommand : Reaches s (runCmd1 s) := .head (ticks_iCmd1 hp) (runCmd1_reaches s).to_reflTransGen
  have hphase : (runCmd1 s).phase = if (runCmd1 s).resp = respReady then .iDone else .iFail := rfl
  rw [legacyFallback]
  split
  case isTrue h => exact hcommand.trans (iDone_reaches (hphase.trans (if_pos h)))
  case isFalse h => exact hcommand.trans (iFail_reaches (hphase.trans (if_neg h)))

/-- CMD58 goes on to step 7 whatever the card answers (R180). -/
theorem runCmd58_phase (s : State) : (runCmd58 s).phase = .iDone := by
  rw [runCmd58]
  split
  case isTrue => rfl
  case isFalse h =>
    rw [afterCmd58, goto_phase] at h ⊢
    split_ifs at h ⊢ <;> trivial

/-- From the label ACMD41 goes to when it answers `0x00` to the end of the operation (R180, R183). -/
theorem afterLoop_reaches {s : State} (hp : s.phase = if s.ctype = .v2 then .iCmd58 else .iDone) : Reaches s (afterLoop s) := by
  rw [afterLoop]
  split
  case isTrue h =>
    have hcommand : Reaches s (runCmd58 s) := .head (ticks_iCmd58 (hp.trans (if_pos h))) (runCmd58_reaches s).to_reflTransGen
    exact hcommand.trans (iDone_reaches (runCmd58_phase s))
  case isFalse h => exact iDone_reaches (hp.trans (if_neg h))

theorem runAcmd41_resp (hcs : Bool) (s : State) :
    (runAcmd41 hcs s).resp = (command idxSdOpCond (acmd41Arg hcs) s).resp := by rw [runAcmd41, afterAcmd41_spec]

/-- ACMD41 answered `0x00` ends the loop (R178). -/
theorem runAcmd41_phase_of_ready {hcs : Bool} {s : State} (h : (runAcmd41 hcs s).resp = respReady) :
    (runAcmd41 hcs s).phase = if (runAcmd41 hcs s).ctype = .v2 then .iCmd58 else .iDone := by
  rw [runAcmd41_resp] at h
  rw [runAcmd41, afterAcmd41, if_pos h]; rfl

/-- Any other answer counts an iteration (R176). -/
theorem runAcmd41_of_waiting {hcs : Bool} {s : State} (h : ¬ (runAcmd41 hcs s).resp = respReady) :
    runAcmd41 hcs s = acmdLoopHead { command idxSdOpCond (acmd41Arg hcs) s with icnt := s.icnt + 1 } := by
  rw [runAcmd41_resp] at h
  rw [runAcmd41, afterAcmd41, if_neg h, command_icnt]

/-- Step 4 with `n` iterations left, from its loop head to the end of the operation (R176, R183). -/
theorem acmdLoop_reaches (n : Nat) {s : State} (hn : s.icnt + n = s.cfg.nAcmd)
    (hp : s.phase = if s.icnt < s.cfg.nAcmd then .iCmd55 else .iFail) : Reaches s (acmdLoop n s) := by
  induction n generalizing s with
  | zero => exact iFail_reaches (hp.trans (if_neg (by omega)))
  | succ n ih =>
    have happ : Reaches s (runCmd55 s) :=
      .head (ticks_iCmd55 (hp.trans (if_pos (by omega)))) (runCmd55_reaches s).to_reflTransGen
    have hphase : (runCmd55 s).phase = if respIdle < (runCmd55 s).resp then .iCmd1 else .iAcmd41 := rfl
    have hcfg : (runCmd55 s).cfg = s.cfg := command_cfg idxApp 0 s
    have hicnt : (runCmd55 s).icnt = s.icnt := command_icnt idxApp 0 s
    rw [acmdLoop]
    split
    case isTrue h => exact happ.trans (legacyFallback_reaches (hphase.trans (if_pos h)))
    case isFalse h =>
      have hop : Reaches s (runAcmd41 ((runCmd55 s).ctype == .v2) (runCmd55 s)) :=
        happ.trans (.head (ticks_iAcmd41 (hphase.trans (if_neg h))) (runAcmd41_reaches _ _).to_reflTransGen)
      dsimp only
      split
      case isTrue hready => exact hop.trans (afterLoop_reaches (runAcmd41_phase_of_ready hready))
      case isFalse hwait =>
        rw [runAcmd41_of_waiting hwait] at hop ⊢
        exact hop.trans (ih (by simp only [acmdLoopHead, goto_icnt, goto_cfg, command_cfg, hcfg, hicnt]; omega) rfl)

/-- Step 3 ends at the loop head of step 4 with ICNT 0 (R175, R176). -/
theorem runCmd8_beginsLoop (s : State) : ∃ u, runCmd8 s = beginAcmdLoop u ∧ u.cfg = s.cfg := by
  by_cases h : (command idxIfCond argIfCond s).resp = respIdle
  · have hafter : afterCmd8 (command idxIfCond argIfCond s) = goto .iR7 { command idxIfCond argIfCond s with ctype := .v1Mmc } :=
      if_pos h
    rw [runCmd8, hafter]
    dsimp only
    rw [if_pos (goto_phase _ _), afterR7]
    refine ⟨_, rfl, ?_⟩
    split <;> simp
  · have hafter : afterCmd8 (command idxIfCond argIfCond s) =
      beginAcmdLoop { command idxIfCond argIfCond s with ctype := .v1Mmc } := if_neg h
    rw [runCmd8, hafter]
    dsimp only
    rw [if_neg (by rw [beginAcmdLoop_spec]; split <;> simp)]
    exact ⟨_, rfl, command_cfg _ _ s⟩

/-- INITIALIZE with the valid unit, from its first label to its end (R183). -/
theorem initializeCard_reaches (s : State) : Reaches (goto .iSpeed (initStart s)) (initializeCard s) := by
  have hgo : Reaches (goto .iSpeed (initStart s)) (runCmd0 (busReset (initStart s))) :=
    (busReset_reaches _).trans (.head (ticks_iCmd0 _) (runCmd0_reaches _).to_reflTransGen)
  have hphase : (runCmd0 (busReset (initStart s))).phase =
    if (runCmd0 (busReset (initStart s))).resp = respIdle then .iCmd8 else .iFail := rfl
  rw [initializeCard]
  split
  case isTrue h =>
    have hclass := hgo.trans (.head (ticks_iCmd8 (hphase.trans (if_pos h))) (runCmd8_reaches _).to_reflTransGen)
    obtain ⟨u, hu, hcfg⟩ := runCmd8_beginsLoop (runCmd0 (busReset (initStart s)))
    rw [hu] at hclass ⊢
    exact hclass.trans (acmdLoop_reaches _ (by rw [beginAcmdLoop_spec, ← hcfg]; exact Nat.zero_add _) rfl)
  case isFalse h => exact hgo.trans (iFail_reaches (hphase.trans (if_neg h)))

/-! ### The sector loop of READ and WRITE (R206, R214) -/

/-- The loop that READ and WRITE share, around what each does with one sector. -/
def sectorLoop (run : State → State) (unit : Byte) (sector : Word) : Nat → State → State
  | 0, s => respond resOk 0 unit s
  | n + 1, s =>
    let t := run { s with sect := sectorIndex sector s.sidx }
    if t.phase = .xFail then errorExit .transferError unit t else sectorLoop run unit sector n t

theorem readSectors_eq_sectorLoop (unit : Byte) (sector : Word) (n : Nat) (s : State) :
    readSectors unit sector n s = sectorLoop readSector unit sector n s := by
  induction n generalizing s with
  | zero => rfl
  | succ n ih => simp only [readSectors, sectorLoop, ih]

theorem writeSectors_eq_sectorLoop (unit : Byte) (sector : Word) (n : Nat) (s : State) :
    writeSectors unit sector n s = sectorLoop writeSector unit sector n s := by
  induction n generalizing s with
  | zero => rfl
  | succ n ih => simp only [writeSectors, sectorLoop, ih]

/-- The loop with `n` sectors left, from the label `sector:`, when the sequencer runs one sector to X_FAIL or back to that label. -/
theorem sectorLoop_reaches {run : State → State} {cmd : Phase} (hreq : ∀ s, request (run s) = request s)
    (hsidx : ∀ s, ¬ (run s).phase = .xFail → (run s).sidx = s.sidx + 1)
    (hrun : ∀ s, s.sidx < s.count.toNat →
      Reaches (goto cmd s) (if (run s).phase = .xFail then run s else sectorHead cmd (run s)))
    (n : Nat) {s : State} (hn : s.sidx + n = s.count.toNat) :
    Reaches (sectorHead cmd s) (sectorLoop run s.unit s.sector n s) := by
  induction n generalizing s with
  | zero => rw [sectorHead, if_pos (show s.sidx = s.count.toNat from hn)]; exact .refl
  | succ n ih =>
    let cur : State := { s with sect := sectorIndex s.sector s.sidx }
    have hsector := hrun cur (show s.sidx < s.count.toNat by omega)
    have hunit : (run cur).unit = s.unit := congrArg Request.unit (hreq cur)
    have hfirst : (run cur).sector = s.sector := congrArg Request.sector (hreq cur)
    have hcount : (run cur).count = s.count := congrArg Request.count (hreq cur)
    rw [sectorHead, if_neg (by omega), sectorLoop]
    split
    case isTrue h =>
      have hexit := xFail_reaches h
      rw [hunit] at hexit
      rw [if_pos h] at hsector
      exact hsector.trans hexit
    case isFalse h =>
      have hrest := ih (s := run cur) (by rw [hsidx cur h, hcount]; exact (Nat.succ_add_eq_add_succ _ _).trans hn)
      rw [hunit, hfirst] at hrest
      rw [if_neg h] at hsector
      exact hsector.trans hrest

/-! ### READ (R206) -/

/-- No primitive writes a request register (R32). -/
theorem request_command (index : BitVec 6) (arg : Word) (s : State) : request (command index arg s) = request s := by
  simp only [request, command_op, command_unit, command_query, command_sector, command_count]

/-- Token polling starts over from its own label, whichever it stood at. -/
theorem tokenWait_goto (n : Nat) (p : Phase) (s : State) : tokenWait n (goto p s) = tokenWait n s := by
  induction n generalizing s with
  | zero => rfl
  | succ n ih =>
    have hih : tokenWait n (waitOnce (goto p s)) = tokenWait n (waitOnce s) := ih (waitOnce s)
    rw [tokenWait, tokenWait, hih]; rfl

/-- Token polling with `n` polls left (R203). -/
theorem tokenHead_reaches (n : Nat) {s : State} (hn : s.pcnt + n = s.cfg.nToken) : Reaches (tokenHead s) (tokenWait n s) := by
  induction n generalizing s with
  | zero => rw [tokenHead, if_neg (by omega)]; exact .refl
  | succ n ih =>
    have hpoll : tick (goto .rdToken s) =
        if rx s = tokenStart then .next (goto .rdData { waitOnce s with bcnt := 0 })
        else if rx s = tokenFiller then .next (tokenHead (waitOnce s)) else .next (goto .xFail (waitOnce s)) := rfl
    rw [tokenHead, if_pos (by omega), tokenWait]
    split
    case isTrue hstart => exact .single (hpoll.trans (if_pos hstart))
    case isFalse hstart =>
      rw [if_neg hstart] at hpoll
      split
      case isTrue hfill =>
        exact .head (hpoll.trans (if_pos hfill)) (ih (by simp only [waitOnce_pcnt, waitOnce_cfg]; omega))
      case isFalse hfill => exact .single (hpoll.trans (if_neg hfill))

/-- One payload byte of READ, inside the buffer (R204, R62). -/
theorem ticks_rdData {s : State} (hs : s.sidx < s.count.toNat) (hb : s.bcnt < sectorBytes) :
    Ticks (goto .rdData s) (goto (if s.bcnt + 1 < sectorBytes then .rdData else .rdCrc0) (readByte s)) :=
  if_pos (bufOffset_lt_bufSize hs hb)

/-- The payload of READ with `n` bytes left (R204). -/
theorem readPayload_reaches (n : Nat) {s : State} (hs : s.sidx < s.count.toNat) (hn : s.bcnt + n = sectorBytes) :
    Reaches (goto (if s.bcnt < sectorBytes then .rdData else .rdCrc0) s) (goto .rdCrc0 (readPayload n s)) := by
  induction n generalizing s with
  | zero => rw [if_neg (by omega)]; exact .refl
  | succ n ih =>
    rw [if_pos (by omega)]
    exact .head (ticks_rdData hs (by omega)) (ih (s := readByte s) hs ((Nat.succ_add_eq_add_succ s.bcnt n).trans hn))

/-- CMD17 answered `0x00` starts token polling (R202, R203). -/
theorem runCmd17_of_ready {arg : Word} {s : State} (h : (runCmd17 arg s).resp = respReady) :
    runCmd17 arg s = tokenHead { command idxReadBlock arg s with pcnt := 0 } := by
  rw [runCmd17, afterCmd17] at h ⊢
  split at h
  case isTrue hresp => exact if_pos hresp
  case isFalse hresp => exact absurd h hresp

/-- Any other answer fails the sector (R202). -/
theorem runCmd17_phase_of_refused {arg : Word} {s : State} (h : ¬ (runCmd17 arg s).resp = respReady) :
    (runCmd17 arg s).phase = .xFail := by
  rw [runCmd17, afterCmd17] at h ⊢
  split at h
  case isTrue hresp => exact absurd hresp h
  case isFalse hresp => rw [if_neg hresp]; rfl

theorem runCmd17_sidx (arg : Word) (s : State) : (runCmd17 arg s).sidx = s.sidx := by
  rw [runCmd17, afterCmd17]
  split <;> exact command_sidx idxReadBlock arg s

theorem request_runCmd17 (arg : Word) (s : State) : request (runCmd17 arg s) = request s := by
  rw [runCmd17, afterCmd17]
  split <;> exact request_command idxReadBlock arg s

/-- A sector of READ after CMD17: its token polling is over. -/
def awaitToken (s : State) : State := tokenWait s.cfg.nToken s

/-- A sector of READ after its payload: the CRC bytes, `Deselect`, the next sector's index (R204, R205). -/
def closeRead (s : State) : State :=
  let t := deselect (xchg idleByte (xchg idleByte s))
  goto .rdCmd { t with sidx := t.sidx + 1 }

/-- A sector of READ after its start token. -/
def storeSector (s : State) : State := closeRead (readPayload sectorBytes s)

/-- The three ends of a sector of READ: the command refused, no start token, the sector stored (R206). -/
theorem readSector_cases (s : State) :
    let cmd := runCmd17 (blockArg s.cfg.addrMode s.sect) s
    (cmd.phase = .xFail ∧ readSector s = cmd) ∨
      (cmd.resp = respReady ∧ (awaitToken cmd).phase = .xFail ∧ readSector s = awaitToken cmd) ∨
      (cmd.resp = respReady ∧ (awaitToken cmd).phase = .rdData ∧ (awaitToken cmd).bcnt = 0 ∧
        readSector s = storeSector (awaitToken cmd)) := by
  intro cmd
  have hsector : readSector s =
      if cmd.resp = respReady then
        if (awaitToken cmd).phase = .xFail then awaitToken cmd else storeSector (awaitToken cmd)
      else cmd := rfl
  by_cases hresp : cmd.resp = respReady
  · rw [if_pos hresp] at hsector
    rcases tokenWait_phase cmd.cfg.nToken cmd with ⟨hp, hb⟩ | hp
    · exact .inr (.inr ⟨hresp, hp, hb, hsector.trans (if_neg (by rw [awaitToken, hp]; decide))⟩)
    · exact .inr (.inl ⟨hresp, hp, hsector.trans (if_pos hp)⟩)
  · exact .inl ⟨runCmd17_phase_of_refused hresp, hsector.trans (if_neg hresp)⟩

theorem request_awaitToken (s : State) : request (awaitToken s) = request s := by rw [awaitToken, tokenWait_frame]; rfl
theorem awaitToken_sidx (s : State) : (awaitToken s).sidx = s.sidx := by rw [awaitToken, tokenWait_frame]

theorem request_storeSector (s : State) : request (storeSector s) = request s := by
  rw [storeSector, readPayload_frame]; rfl
theorem storeSector_phase (s : State) : (storeSector s).phase = .rdCmd := rfl
theorem storeSector_sidx (s : State) : (storeSector s).sidx = s.sidx + 1 := by
  rw [storeSector, readPayload_frame]; rfl

theorem request_readSector (s : State) : request (readSector s) = request s := by
  rcases readSector_cases s with ⟨-, h⟩ | ⟨-, -, h⟩ | ⟨-, -, -, h⟩ <;>
    simp only [h, request_storeSector, request_awaitToken, request_runCmd17]

/-- SIDX counts the sectors that were read (R206). -/
theorem readSector_sidx {s : State} (h : ¬ (readSector s).phase = .xFail) : (readSector s).sidx = s.sidx + 1 := by
  rcases readSector_cases s with ⟨hp, hs⟩ | ⟨-, hp, hs⟩ | ⟨-, -, -, hs⟩
  · exact absurd (hs ▸ hp) h
  · exact absurd (hs ▸ hp) h
  · rw [hs, storeSector_sidx, awaitToken_sidx, runCmd17_sidx]

theorem awaitToken_reaches {arg : Word} {s : State} (h : (runCmd17 arg s).resp = respReady) :
    Reaches (runCmd17 arg s) (awaitToken (runCmd17 arg s)) := by
  rw [awaitToken, runCmd17_of_ready h, tokenHead, tokenWait_goto]
  exact tokenHead_reaches _ (Nat.zero_add _)

theorem ticks_rdCrc0 (s : State) : Ticks (goto .rdCrc0 s) (goto .rdCrc1 (xchg idleByte s)) := rfl
theorem ticks_rdCrc1 (s : State) : Ticks (goto .rdCrc1 s) (goto .rdDesel (xchg idleByte s)) := rfl
theorem ticks_rdDesel (s : State) : Ticks (goto .rdDesel s) (goto (.dDesel .rdDesel) s) := rfl
theorem ticks_rdCmd (s : State) :
    Ticks (goto .rdCmd s) (enterCommand idxReadBlock (blockArg s.cfg.addrMode s.sect) s) := rfl

theorem closeRead_reaches (s : State) : Reaches (goto .rdCrc0 s) (sectorHead .rdCmd (closeRead s)) :=
  .head (ticks_rdCrc0 s) (.head (ticks_rdCrc1 _) (.head (ticks_rdDesel _) (deselect_reaches .rdDesel _)))

theorem storeSector_reaches {s : State} (hp : s.phase = .rdData) (hb : s.bcnt = 0) (hs : s.sidx < s.count.toNat) :
    Reaches s (sectorHead .rdCmd (storeSector s)) := by
  have hpayload := readPayload_reaches sectorBytes hs (by rw [hb, Nat.zero_add])
  rw [if_pos (by rw [hb]; decide), goto_self hp] at hpayload
  exact hpayload.trans (closeRead_reaches _)

/-- One sector of READ: to X_FAIL, or to the label `sector:` with the next index (R206). -/
theorem readSector_reaches {s : State} (hs : s.sidx < s.count.toNat) :
    Reaches (goto .rdCmd s) (if (readSector s).phase = .xFail then readSector s else sectorHead .rdCmd (readSector s)) := by
  have hcmd := Relation.ReflTransGen.head (ticks_rdCmd s) (runCmd17_reaches _ s).to_reflTransGen
  rcases readSector_cases s with ⟨hp, h⟩ | ⟨hready, hp, h⟩ | ⟨hready, hp, hb, h⟩
  · rw [h, if_pos hp]; exact hcmd
  · rw [h, if_pos hp]; exact hcmd.trans (awaitToken_reaches hready)
  · have hcount := congrArg Request.count ((request_awaitToken _).trans (request_runCmd17 (blockArg s.cfg.addrMode s.sect) s))
    have hstore := storeSector_reaches hp hb (by rw [awaitToken_sidx, runCmd17_sidx]; exact hs.trans_eq (congrArg _ hcount.symm))
    rw [h, if_neg (by rw [storeSector_phase]; decide)]
    exact (hcmd.trans (awaitToken_reaches hready)).trans hstore

/-- The sector loop of READ with `n` sectors left (R206). -/
theorem readSectors_reaches (n : Nat) {s : State} (hn : s.sidx + n = s.count.toNat) :
    Reaches (sectorHead .rdCmd s) (readSectors s.unit s.sector n s) := by
  rw [readSectors_eq_sectorLoop]
  exact sectorLoop_reaches request_readSector (fun _ => readSector_sidx) (fun _ => readSector_reaches) n hn

/-! ### WRITE (R214) -/

/-- The busy-wait starts over from its own label, whichever it stood at. -/
theorem busyWait_goto (n : Nat) (p : Phase) (s : State) : busyWait n (goto p s) = busyWait n s := by
  induction n generalizing s with
  | zero => rfl
  | succ n ih =>
    have hih : busyWait n (waitOnce (goto p s)) = busyWait n (waitOnce s) := ih (waitOnce s)
    rw [busyWait, busyWait, hih]; rfl

/-- The busy-wait with `n` polls left (R212). -/
theorem busyHead_reaches (n : Nat) {s : State} (hn : s.pcnt + n = s.cfg.nBusy) : Reaches (busyHead s) (busyWait n s) := by
  induction n generalizing s with
  | zero => rw [busyHead, if_neg (by omega)]; exact .refl
  | succ n ih =>
    have hpoll : tick (goto .wrBusy s) =
        if rx s = notBusy then .next (goto .wrTrail (waitOnce s)) else .next (busyHead (waitOnce s)) := rfl
    rw [busyHead, if_pos (by omega), busyWait]
    split
    case isTrue hready => exact .single (hpoll.trans (if_pos hready))
    case isFalse hbusy =>
      exact .head (hpoll.trans (if_neg hbusy)) (ih (by simp only [waitOnce_pcnt, waitOnce_cfg]; omega))

/-- One payload byte of WRITE, inside the buffer (R209, R62). -/
theorem ticks_wrData {s : State} (hs : s.sidx < s.count.toNat) (hb : s.bcnt < sectorBytes) :
    Ticks (goto .wrData s) (goto (if s.bcnt + 1 < sectorBytes then .wrData else .wrCrc0) (writeByte s)) :=
  if_pos (bufOffset_lt_bufSize hs hb)

/-- The payload of WRITE with `n` bytes left (R209). -/
theorem writePayload_reaches (n : Nat) {s : State} (hs : s.sidx < s.count.toNat) (hn : s.bcnt + n = sectorBytes) :
    Reaches (goto (if s.bcnt < sectorBytes then .wrData else .wrCrc0) s) (goto .wrCrc0 (writePayload n s)) := by
  induction n generalizing s with
  | zero => rw [if_neg (by omega)]; exact .refl
  | succ n ih =>
    rw [if_pos (by omega)]
    exact .head (ticks_wrData hs (by omega)) (ih (s := writeByte s) hs ((Nat.succ_add_eq_add_succ s.bcnt n).trans hn))

theorem ticks_wrCmd (s : State) :
    Ticks (goto .wrCmd s) (enterCommand idxWriteBlock (blockArg s.cfg.addrMode s.sect) s) := rfl
theorem ticks_wrToken (s : State) : Ticks (goto .wrToken s) (goto .wrData { xchg tokenStart s with bcnt := 0 }) := rfl
theorem ticks_wrCrc0 (s : State) : Ticks (goto .wrCrc0 s) (goto .wrCrc1 (xchg crcDataDummy s)) := rfl
theorem ticks_wrCrc1 (s : State) : Ticks (goto .wrCrc1 s) (goto .wrResp (xchg crcDataDummy s)) := rfl
theorem ticks_wrResp (s : State) : Ticks (goto .wrResp s) (afterDataResponse (rx s) (xchg idleByte s)) := rfl
theorem ticks_wrTrail (s : State) : Ticks (goto .wrTrail s) (goto .wrDesel (xchg idleByte s)) := rfl
theorem ticks_wrDesel (s : State) : Ticks (goto .wrDesel s) (goto (.dDesel .wrDesel) s) := rfl

/-- The answer to CMD24 chooses between the data and X_FAIL (R208). -/
theorem runCmd24_phase (arg : Word) (s : State) :
    (runCmd24 arg s).phase = if (runCmd24 arg s).resp = respReady then .wrToken else .xFail := rfl

theorem runCmd24_sidx (arg : Word) (s : State) : (runCmd24 arg s).sidx = s.sidx := command_sidx idxWriteBlock arg s
theorem request_runCmd24 (arg : Word) (s : State) : request (runCmd24 arg s) = request s := request_command idxWriteBlock arg s

theorem sendBlock_sidx (s : State) : (sendBlock s).sidx = s.sidx := by rw [sendBlock, writePayload_frame]; rfl
theorem request_sendBlock (s : State) : request (sendBlock s) = request s := by rw [sendBlock, writePayload_frame]; rfl

theorem request_xchg (o : Byte) (s : State) : request (xchg o s) = request s := rfl
theorem afterDataResponse_sidx (d : Byte) (s : State) : (afterDataResponse d s).sidx = s.sidx := by
  rw [afterDataResponse]; split <;> rfl
theorem request_afterDataResponse (d : Byte) (s : State) : request (afterDataResponse d s) = request s := by
  rw [afterDataResponse]; split <;> rfl

/-- A sector of WRITE after CMD24: the block and the data response (R209 to R211). -/
def answerBlock (s : State) : State := afterDataResponse (rx (sendBlock s)) (xchg idleByte (sendBlock s))

theorem answerBlock_sidx (s : State) : (answerBlock s).sidx = s.sidx := by
  rw [answerBlock, afterDataResponse_sidx, xchg_sidx, sendBlock_sidx]

theorem request_answerBlock (s : State) : request (answerBlock s) = request s := by
  rw [answerBlock, request_afterDataResponse, request_xchg, request_sendBlock]

/-- A sector of WRITE after its data response: the busy-wait is over (R212). -/
def awaitStored (s : State) : State := busyWait s.cfg.nBusy s

theorem awaitStored_sidx (s : State) : (awaitStored s).sidx = s.sidx := by rw [awaitStored, busyWait_frame]
theorem request_awaitStored (s : State) : request (awaitStored s) = request s := by rw [awaitStored, busyWait_frame]; rfl

/-- A sector of WRITE after its busy-wait: the trailing byte, `Deselect`, the next sector's index (R213). -/
def closeWrite (s : State) : State :=
  let t := deselect (xchg idleByte s)
  goto .wrCmd { t with sidx := t.sidx + 1 }

theorem closeWrite_phase (s : State) : (closeWrite s).phase = .wrCmd := rfl
theorem closeWrite_sidx (s : State) : (closeWrite s).sidx = s.sidx + 1 := rfl
theorem request_closeWrite (s : State) : request (closeWrite s) = request s := rfl

/-- The four ends of a sector of WRITE: the command refused, the block rejected, the card still busy, the sector written (R214). -/
theorem writeSector_cases (s : State) :
    let cmd := runCmd24 (blockArg s.cfg.addrMode s.sect) s
    (cmd.phase = .xFail ∧ writeSector s = cmd) ∨
      (cmd.phase = .wrToken ∧ (answerBlock cmd).phase = .xFail ∧ writeSector s = answerBlock cmd) ∨
      (cmd.phase = .wrToken ∧ dataAccepted (rx (sendBlock cmd)) = true ∧
        ((awaitStored (answerBlock cmd)).phase = .xFail ∧ writeSector s = awaitStored (answerBlock cmd) ∨
         (awaitStored (answerBlock cmd)).phase = .wrTrail ∧ writeSector s = closeWrite (awaitStored (answerBlock cmd)))) := by
  intro cmd
  have hsector : writeSector s =
      if cmd.resp = respReady then
        if dataAccepted (rx (sendBlock cmd)) then
          if (awaitStored (answerBlock cmd)).phase = .xFail then awaitStored (answerBlock cmd)
          else closeWrite (awaitStored (answerBlock cmd))
        else answerBlock cmd
      else cmd := rfl
  have hphase : cmd.phase = if cmd.resp = respReady then .wrToken else .xFail := runCmd24_phase _ s
  by_cases hresp : cmd.resp = respReady
  · rw [if_pos hresp] at hsector hphase
    by_cases hd : dataAccepted (rx (sendBlock cmd)) = true
    · rw [if_pos hd] at hsector
      rcases busyWait_phase (answerBlock cmd).cfg.nBusy (answerBlock cmd) with hp | hp
      · exact .inr (.inr ⟨hphase, hd, .inr ⟨hp, hsector.trans (if_neg (by rw [awaitStored, hp]; decide))⟩⟩)
      · exact .inr (.inr ⟨hphase, hd, .inl ⟨hp, hsector.trans (if_pos hp)⟩⟩)
    · rw [if_neg hd] at hsector
      have hp : (answerBlock cmd).phase = .xFail := by rw [answerBlock, afterDataResponse, if_neg hd]; rfl
      exact .inr (.inl ⟨hphase, hp, hsector⟩)
  · rw [if_neg hresp] at hsector hphase
    exact .inl ⟨hphase, hsector⟩

theorem request_writeSector (s : State) : request (writeSector s) = request s := by
  rcases writeSector_cases s with ⟨-, h⟩ | ⟨-, -, h⟩ | ⟨-, -, ⟨-, h⟩ | ⟨-, h⟩⟩ <;>
    simp only [h, request_closeWrite, request_awaitStored, request_answerBlock, request_runCmd24]

/-- SIDX counts the sectors that were written (R214). -/
theorem writeSector_sidx {s : State} (h : ¬ (writeSector s).phase = .xFail) : (writeSector s).sidx = s.sidx + 1 := by
  rcases writeSector_cases s with ⟨hp, hs⟩ | ⟨-, hp, hs⟩ | ⟨-, -, ⟨hp, hs⟩ | ⟨-, hs⟩⟩
  · exact absurd (hs ▸ hp) h
  · exact absurd (hs ▸ hp) h
  · exact absurd (hs ▸ hp) h
  · rw [hs, closeWrite_sidx, awaitStored_sidx, answerBlock_sidx, runCmd24_sidx]

/-- The dummy CRC bytes and the data response (R210, R211). -/
theorem wrCrc0_reaches (s : State) :
    let t := xchg crcDataDummy (xchg crcDataDummy s)
    Reaches (goto .wrCrc0 s) (afterDataResponse (rx t) (xchg idleByte t)) :=
  .head (ticks_wrCrc0 s) (.head (ticks_wrCrc1 _) (.single (ticks_wrResp _)))

theorem answerBlock_reaches {s : State} (hp : s.phase = .wrToken) (hs : s.sidx < s.count.toNat) : Reaches s (answerBlock s) := by
  have htoken := ticks_wrToken s
  have hpayload := writePayload_reaches sectorBytes (s := { xchg tokenStart s with bcnt := 0 }) hs (Nat.zero_add _)
  have hend := wrCrc0_reaches (writePayload sectorBytes { xchg tokenStart s with bcnt := 0 })
  rw [goto_self hp] at htoken
  rw [if_pos (show 0 < sectorBytes by decide)] at hpayload
  exact (hpayload.head htoken).trans hend

/-- An accepted block is waited for (R211, R212). -/
theorem awaitStored_reaches {d : Byte} {s : State} (h : dataAccepted d = true) :
    Reaches (afterDataResponse d s) (awaitStored (afterDataResponse d s)) := by
  rw [awaitStored, afterDataResponse, if_pos h, busyHead, busyWait_goto]
  exact busyHead_reaches _ (Nat.zero_add _)

theorem closeWrite_reaches {s : State} (hp : s.phase = .wrTrail) : Reaches s (sectorHead .wrCmd (closeWrite s)) := by
  have htrail := ticks_wrTrail s
  rw [goto_self hp] at htrail
  exact .head htrail (.head (ticks_wrDesel _) (deselect_reaches .wrDesel _))

/-- One sector of WRITE: to X_FAIL, or to the label `sector:` with the next index (R214). -/
theorem writeSector_reaches {s : State} (hs : s.sidx < s.count.toNat) :
    Reaches (goto .wrCmd s) (if (writeSector s).phase = .xFail then writeSector s else sectorHead .wrCmd (writeSector s)) := by
  have hcmd := Relation.ReflTransGen.head (ticks_wrCmd s) (runCmd24_reaches _ s).to_reflTransGen
  have hcount := congrArg Request.count (request_runCmd24 (blockArg s.cfg.addrMode s.sect) s)
  have hblock := answerBlock_reaches (s := runCmd24 (blockArg s.cfg.addrMode s.sect) s)
  rw [runCmd24_sidx] at hblock
  have hlt := hs.trans_eq (congrArg BitVec.toNat hcount.symm)
  rcases writeSector_cases s with ⟨hp, h⟩ | ⟨hready, hp, h⟩ | ⟨hready, hd, ⟨hp, h⟩ | ⟨hp, h⟩⟩
  · rw [h, if_pos hp]; exact hcmd
  · rw [h, if_pos hp]; exact hcmd.trans (hblock hready hlt)
  · rw [h, if_pos hp]; exact (hcmd.trans (hblock hready hlt)).trans (awaitStored_reaches hd)
  · rw [h, if_neg (by rw [closeWrite_phase]; decide)]
    exact ((hcmd.trans (hblock hready hlt)).trans (awaitStored_reaches hd)).trans (closeWrite_reaches hp)

/-- The sector loop of WRITE with `n` sectors left (R214). -/
theorem writeSectors_reaches (n : Nat) {s : State} (hn : s.sidx + n = s.count.toNat) :
    Reaches (sectorHead .wrCmd s) (writeSectors s.unit s.sector n s) := by
  rw [writeSectors_eq_sectorLoop]
  exact sectorLoop_reaches request_writeSector (fun _ => writeSector_sidx) (fun _ => writeSector_reaches) n hn

/-! ### Requests (R28, R102) -/

/-- What a request can decode to: its operation, with its own registers as operands (R102, R104, R107). -/
theorem decodeRequest_cases {r : Request} {i : Instr} (h : decodeRequest r = .ok i) :
    (r.op = opInitialize ∧ i = .hostInitialize r.unit) ∨ (r.op = opStatus ∧ i = .hostStatus r.unit) ∨
      i = .hostRead r.unit r.sector r.count ∨ i = .hostWrite r.unit r.sector r.count ∨ i = .ioctlCtrlSync r.unit ∨
      i = .ioctlGetSectorSize r.unit ∨ i = .ioctlGetBlockSize r.unit := by
  unfold decodeRequest at h
  split_ifs at h with hinit hstatus <;> cases h
  · exact .inl ⟨hinit, rfl⟩
  · exact .inr (.inl ⟨hstatus, rfl⟩)
  all_goals simp only [true_or, or_true]

/-- READ turned away by a pre-check (R201). -/
theorem execHostRead_rejected {unit : Byte} {sector count : Word} {s : State} {e : ErrorKind}
    (h : transferCheck unit count s = some e) : execHostRead unit sector count s = .next (raiseError e unit s) := by
  rw [execHostRead, h]

/-- READ past its pre-checks (R206). -/
theorem execHostRead_accepted {unit : Byte} {sector count : Word} {s : State} (h : transferCheck unit count s = none) :
    execHostRead unit sector count s = .next (readSectors unit sector count.toNat { s with sidx := 0 }) := by
  rw [execHostRead, h]

/-- WRITE turned away by a pre-check (R201). -/
theorem execHostWrite_rejected {unit : Byte} {sector count : Word} {s : State} {e : ErrorKind}
    (h : transferCheck unit count s = some e) : execHostWrite unit sector count s = .next (raiseError e unit s) := by
  rw [execHostWrite, h]

/-- WRITE past its pre-checks (R214). -/
theorem execHostWrite_accepted {unit : Byte} {sector count : Word} {s : State} (h : transferCheck unit count s = none) :
    execHostWrite unit sector count s = .next (writeSectors unit sector count.toNat { s with sidx := 0 }) := by
  rw [execHostWrite, h]

/-- From a request that decodes, the sequencer starts and reaches the state of its instruction. -/
theorem startRequest_reaches {s : State} {i : Instr} (h : decodeRequest (request s) = .ok i) :
    ∃ u t, startRequest s = .next u ∧ Reaches u t ∧ exec i s = .next t := by
  unfold startRequest
  rw [h]
  rcases decodeRequest_cases h with ⟨-, rfl⟩ | ⟨-, rfl⟩ | rfl | rfl | rfl | rfl | rfl
  case inr.inr.inl =>
    cases hcheck : transferCheck (request s).unit (request s).count s with
    | some e => exact ⟨_, _, by simp only [hcheck], .refl, execHostRead_rejected hcheck⟩
    | none =>
      exact ⟨_, _, by simp only [hcheck], readSectors_reaches (s := { s with sidx := 0 }) s.count.toNat (Nat.zero_add _),
        execHostRead_accepted hcheck⟩
  case inr.inr.inr.inl =>
    cases hcheck : transferCheck (request s).unit (request s).count s with
    | some e => exact ⟨_, _, by simp only [hcheck], .refl, execHostWrite_rejected hcheck⟩
    | none =>
      exact ⟨_, _, by simp only [hcheck], writeSectors_reaches (s := { s with sidx := 0 }) s.count.toNat (Nat.zero_add _),
        execHostWrite_accepted hcheck⟩
  case inl =>
    refine ⟨_, _, rfl, ?_, rfl⟩
    split
    · exact initializeCard_reaches s
    · exact .refl
  all_goals exact ⟨_, _, rfl, .refl, rfl⟩

/-- In IDLE a step runs what the request at hand decodes to (R28, R102). -/
theorem step_of_request {s : State} {c : HostCall} {rest : List HostCall} {i : Instr} (hp : s.phase = .idle)
    (hh : s.host = c :: rest) (hd : decodeRequest c.req = .ok i) : step s = exec i (sample c rest s) := by
  simp only [step, hp, hh, hd]

/-- In IDLE a step turns away a request that selects no operation (R111, R235). -/
theorem step_of_illegal_request {s : State} {c : HostCall} {rest : List HostCall} {e : DecodeReject} (hp : s.phase = .idle)
    (hh : s.host = c :: rest) (hd : decodeRequest c.req = .error e) : step s = .next (rejectRequest (sample c rest s)) := by
  simp only [step, hp, hh, hd]

/-- The big step of a request is a run of the sequencer. -/
theorem step_idle_reaches {s : State} {c : HostCall} {rest : List HostCall} (hp : s.phase = .idle) (hh : s.host = c :: rest) :
    ∃ t, step s = .next t ∧ ReachesAfter s t := by
  have htick : tick s = startRequest (sample c rest s) := by rw [tick, hp]; simp only [hh]
  cases hd : decodeRequest c.req with
  | ok i =>
    obtain ⟨u, t, hu, hut, ht⟩ := startRequest_reaches (s := sample c rest s) hd
    exact ⟨t, (step_of_request hp hh hd).trans ht, .head' (htick.trans hu) hut⟩
  | error e =>
    have hreject : startRequest (sample c rest s) = .next (rejectRequest (sample c rest s)) := by
      unfold startRequest
      simp only [show decodeRequest (request (sample c rest s)) = .error e from hd]
    exact ⟨_, step_of_illegal_request hp hh hd, .single (htick.trans hreject)⟩

/-- The meaning of a wire command is a run of the sequencer from the entry of `SendCommand` with the descriptor's frame. -/
theorem exec_frame_reaches {s : State} {i : Instr} (h : decodeFrame (descriptor s) = .ok i) :
    ∃ t, exec i s = .next t ∧ ReachesAfter (enterCommand s.idx s.arg s) t :=
  decodeCommand_reaches (decodeFrame_ok h).1 s

/-- A state at C_DESEL as the entry of `SendCommand` leaves it. -/
theorem enterCommand_self {s : State} (hp : s.phase = .cDesel) (hcrc : s.crc = crcFor s.idx) (hresp : s.resp = 0xFF)
    (hpcnt : s.pcnt = 0) : enterCommand s.idx s.arg s = s := by
  rw [enterCommand, loadDescriptor, goto, ← hp, ← hcrc, ← hresp, ← hpcnt]

/-- Settles O16: a request that decodes runs its operation's chain of procedures and loops; any other is answered by one call. -/
theorem sequencerReachesBigStep : Obligations.SequencerReachesBigStep := by
  intro s c rest hp hh
  obtain ⟨t, ht, hrun⟩ := step_idle_reaches hp hh
  rw [ht]
  exact hrun.exists_ticks

/-- Settles O17: the state is the one `SendCommand`'s entry leaves, from which `exec_frame_reaches` runs. -/
theorem sequencerReachesCommand : Obligations.SequencerReachesCommand := by
  intro s i hp hd hresp hpcnt
  obtain ⟨t, ht, hrun⟩ := exec_frame_reaches hd
  rw [enterCommand_self hp (decodeFrame_ok hd).2 hresp hpcnt] at hrun
  rw [ht]
  exact hrun.exists_ticks

end Sys2Proof.Machine

/-! PROOFS. The invariant, label by label: `LabelInv` is the table of what `Inv` asks at each label of PHASE. One call of the
sequencer keeps the invariant (10_state.md R28, R29, R39); a step of the machine keeps it because it is a run of such calls. -/

namespace Sys2Proof.Machine

/-! ### The invariant as a table -/

/-- The clauses of the invariant that are the same at every label. -/
def Lasting (s : State) : Prop :=
  s.cfg.valid = true ∧
  (s.status = 0x00 ∨ s.status = 0x01) ∧
  (notInitialized s = false → s.speed = some s.cfg.fFast) ∧
  s.bcnt ≤ sectorBytes ∧
  s.icnt ≤ s.cfg.nAcmd ∧
  ((s.code = resOk ∨ s.code = resError ∨ s.code = resNotRdy ∨ s.code = resParErr) ∧
    (s.flags = 0x00 ∨ s.flags = 0x01) ∧ (s.value = 0 ∨ s.value = 1 ∨ s.value = 512)) ∧
  (s.buf.wf = true ∧ ∀ c ∈ s.host, ∀ m, c.buf = some m → m.wf = true)

/-- READ or WRITE runs: on a READY device, for the valid unit, below COUNT (R23, R30). -/
def Transferring (s : State) : Prop := notInitialized s = false ∧ s.unit = unitValid ∧ s.sidx < s.count.toNat

/-- Whoever sends the command with the index in IDX may send it. -/
def MaySend (s : State) : Prop :=
  commandIndices.contains s.idx = true ∧
  (transferIndex s.idx = false → notInitialized s = true) ∧
  (transferIndex s.idx = true → Transferring s) ∧
  (s.idx = idxApp ∨ s.idx = idxSdOpCond → s.icnt < s.cfg.nAcmd)

/-- `SendCommand` runs and no response has come yet (R145, R146). -/
def Sending (s : State) : Prop := MaySend s ∧ isFiller s.resp = true

/-- ReadTrail runs, for CMD8 or CMD58, with the card selected (R96, R150). -/
def Trailing (s : State) : Prop := notInitialized s = true ∧ s.cs = 0 ∧ (s.idx = idxIfCond ∨ s.idx = idxReadOcr)

section accessors
variable {s : State}

theorem MaySend.index (h : MaySend s) : commandIndices.contains s.idx = true := h.1
theorem MaySend.notInit (h : MaySend s) (hi : transferIndex s.idx = false) : notInitialized s = true := h.2.1 hi
theorem MaySend.transferring (h : MaySend s) (hi : transferIndex s.idx = true) : Transferring s := h.2.2.1 hi
theorem MaySend.icnt_lt (h : MaySend s) (hi : s.idx = idxApp ∨ s.idx = idxSdOpCond) : s.icnt < s.cfg.nAcmd := h.2.2.2 hi
theorem Sending.maySend (h : Sending s) : MaySend s := h.1
theorem Sending.filler (h : Sending s) : isFiller s.resp = true := h.2
theorem Trailing.notInit (h : Trailing s) : notInitialized s = true := h.1
theorem Trailing.index (h : Trailing s) : s.idx = idxIfCond ∨ s.idx = idxReadOcr := h.2.2

end accessors

/-- What the invariant asks at a label. -/
def LabelInv : Phase → State → Prop
  | .idle, s => s.cs = 1
  | .cDesel, s => Sending s
  | .cResync, s | .cSel, s | .cToIdle, s => Sending s ∧ s.cs = 1
  | .cB0, s | .cB1, s | .cB2, s | .cB3, s | .cB4, s | .cB5, s | .cToDesel, s => Sending s ∧ s.cs = 0
  | .cPoll, s => (Sending s ∧ s.cs = 0) ∧ s.pcnt < pollBound s.cfg s.idx
  | .t0, s | .t1, s | .t2, s | .t3, s | .iR7, s | .iOcr, s => Trailing s
  | .iPwrup, s => (notInitialized s = true ∧ s.cs = 1) ∧ s.pcnt < s.cfg.nPwrup
  | .iSpeedUp, s | .dIdle .initDone, s | .dIdle .initFail, s => notInitialized s = true ∧ s.cs = 1
  | .iCmd55, s | .iAcmd41, s => notInitialized s = true ∧ s.icnt < s.cfg.nAcmd
  | .iSpeed, s | .iCshigh, s | .iCmd0, s | .iCmd8, s | .iCmd1, s | .iCmd58, s => notInitialized s = true
  | .iDone, s | .iFail, s | .dDesel .initDone, s | .dDesel .initFail, s => notInitialized s = true
  | .rdCmd, s | .wrCmd, s | .xFail, s | .dDesel .xFail, s => Transferring s
  | .rdToken, s => (Transferring s ∧ s.cs = 0) ∧ s.pcnt < s.cfg.nToken
  | .wrBusy, s => (Transferring s ∧ s.cs = 0) ∧ s.pcnt < s.cfg.nBusy
  | .rdData, s | .wrData, s => (Transferring s ∧ s.cs = 0) ∧ s.bcnt < sectorBytes
  | .rdCrc0, s | .rdCrc1, s | .rdDesel, s | .dDesel .rdDesel, s => Transferring s ∧ s.cs = 0
  | .wrToken, s | .wrCrc0, s | .wrCrc1, s | .wrResp, s => Transferring s ∧ s.cs = 0
  | .wrTrail, s | .wrDesel, s | .dDesel .wrDesel, s => Transferring s ∧ s.cs = 0
  | .dIdle .rdDesel, s | .dIdle .wrDesel, s | .dIdle .xFail, s => Transferring s ∧ s.cs = 1

section table
variable {p : Phase} {s : State} (h : LabelInv p s)
include h

theorem LabelInv.line (v : BitVec 1) (hp : p.line = some v) : s.cs = v := by
  cases p with
  | dDesel d | dIdle d => cases d <;> simp_all [LabelInv, Phase.line]
  | _ => simp_all [LabelInv, Phase.line, Trailing]

theorem LabelInv.sending (hp : p.inCommand = true) : Sending s := by
  cases p <;> simp_all [LabelInv, Phase.inCommand]

theorem LabelInv.trailing (hp : p.inTrail = true) : Trailing s := by
  cases p <;> simp_all [LabelInv, Phase.inTrail]

theorem LabelInv.initializing (hp : p.ofInit = true) : notInitialized s = true := by
  cases p with
  | dDesel d | dIdle d => cases d <;> simp_all [LabelInv, Phase.ofInit]
  | _ => simp_all [LabelInv, Phase.ofInit, Trailing]

theorem LabelInv.transferring (hp : p.ofTransfer = true) : Transferring s := by
  cases p with
  | dDesel d | dIdle d => cases d <;> simp_all [LabelInv, Phase.ofTransfer]
  | _ => simp_all [LabelInv, Phase.ofTransfer]

theorem LabelInv.bcnt_lt (hp : p = .rdData ∨ p = .wrData) : s.bcnt < sectorBytes := by
  rcases hp with rfl | rfl <;> exact h.2

theorem LabelInv.icnt_lt (hp : p = .iCmd55 ∨ p = .iAcmd41) : s.icnt < s.cfg.nAcmd := by
  rcases hp with rfl | rfl <;> exact h.2

theorem LabelInv.pcnt_lt : (p = .cPoll → s.pcnt < pollBound s.cfg s.idx) ∧ (p = .iPwrup → s.pcnt < s.cfg.nPwrup) ∧
    (p = .rdToken → s.pcnt < s.cfg.nToken) ∧ (p = .wrBusy → s.pcnt < s.cfg.nBusy) := by
  refine ⟨?_, ?_, ?_, ?_⟩ <;> rintro rfl <;> exact h.2

end table

/-- The table is the invariant: it says of each label what the invariant's clauses say of it. -/
theorem inv_iff (s : State) : Inv s ↔ Lasting s ∧ LabelInv s.phase s := by
  constructor
  · rintro ⟨hcfg, hstatus, hspeed, hline, hcommand, hfiller, htrail, hinit, htransfer, hbytes, hrounds, hpolls, hresponse,
      hmemory⟩
    have hsending (hp : s.phase.inCommand = true) : Sending s :=
      ⟨⟨hcommand hp, fun hi => hinit (by simp [inInit, hp, hi]), fun hi => htransfer (by simp [inTransfer, hp, hi]),
        fun hi => hrounds.2 (by simp [inRound, hp, hi])⟩, hfiller hp⟩
    have hinitializing (hp : s.phase.ofInit = true) : notInitialized s = true := hinit (by simp [inInit, hp])
    have htransferring (hp : s.phase.ofTransfer = true) : Transferring s := htransfer (by simp [inTransfer, hp])
    have hround (hp : s.phase = .iCmd55 ∨ s.phase = .iAcmd41) : s.icnt < s.cfg.nAcmd :=
      hrounds.2 (by rcases hp with hp | hp <;> simp [inRound, hp])
    refine ⟨⟨hcfg, hstatus, hspeed, hbytes.1, hrounds.1, hresponse, hmemory⟩, ?_⟩
    clear hcommand hfiller hinit htransfer hrounds hcfg hstatus hspeed hresponse hmemory
    cases hp : s.phase with
    | dDesel d | dIdle d =>
      cases d <;> simp_all [LabelInv, Phase.line, Phase.ofInit, Phase.ofTransfer]
    | _ =>
      simp_all [LabelInv, Trailing, Phase.line, Phase.inCommand, Phase.inTrail, Phase.ofInit, Phase.ofTransfer]
  · rintro ⟨⟨hcfg, hstatus, hspeed, hbcnt, hicnt, hresponse, hmemory⟩, h⟩
    refine ⟨hcfg, hstatus, hspeed, h.line, fun hp => (h.sending hp).maySend.index, fun hp => (h.sending hp).filler,
      fun hp => (h.trailing hp).index,
      fun hp => ?_, fun hp => ?_, ⟨hbcnt, h.bcnt_lt⟩, ⟨hicnt, fun hp => ?_⟩, h.pcnt_lt, hresponse, hmemory⟩
    · simp only [inInit, Bool.or_eq_true, Bool.and_eq_true, Bool.not_eq_true'] at hp
      rcases hp with hp | ⟨hp, hi⟩
      · exact h.initializing hp
      · exact (h.sending hp).maySend.notInit hi
    · simp only [inTransfer, Bool.or_eq_true, Bool.and_eq_true] at hp
      rcases hp with hp | ⟨hp, hi⟩
      · exact h.transferring hp
      · exact (h.sending hp).maySend.transferring hi
    · simp only [inRound, Bool.or_eq_true, Bool.and_eq_true, beq_iff_eq] at hp
      rcases hp with hp | ⟨hp, hi⟩
      · exact h.icnt_lt hp
      · exact (h.sending hp).maySend.icnt_lt hi

/-! ### Moves between labels -/

/-- No entry of the table reads PHASE. -/
theorem labelInv_goto (p q : Phase) (s : State) : LabelInv p (goto q s) ↔ LabelInv p s := by
  cases p with
  | dDesel d | dIdle d => cases d <;> exact Iff.rfl
  | _ => exact Iff.rfl

/-- A move to a label keeps the invariant when the label's entry of the table holds. -/
theorem inv_goto {p : Phase} {s : State} (hl : Lasting s) (h : LabelInv p s) : Inv (goto p s) :=
  (inv_iff _).2 ⟨hl, (labelInv_goto p p s).2 h⟩

/-- FLAGS is `0x00` or `0x01` (R33, R106). -/
theorem flagsFor_cases {s : State} (hs : s.status = 0x00 ∨ s.status = 0x01) (unit : Byte) :
    flagsFor unit s = 0x00 ∨ flagsFor unit s = 0x01 := by
  rw [flagsFor, statusRead]
  split
  · exact hs.imp (fun h => by rw [h]; rfl) (fun h => by rw [h]; rfl)
  · exact .inr rfl

/-- An operation ends in IDLE with the line high (R12, R26, R39). -/
theorem respond_inv {code : BitVec 3} {value : Word} {s : State} (hl : Lasting s) (hcs : s.cs = 1)
    (hcode : code = resOk ∨ code = resError ∨ code = resNotRdy ∨ code = resParErr)
    (hvalue : value = 0 ∨ value = 1 ∨ value = 512)
    (unit : Byte) : Inv (respond code value unit s) := by
  obtain ⟨hcfg, hstatus, hspeed, hbcnt, hicnt, -, hmemory⟩ := hl
  have hresponse := And.intro hcode (And.intro (flagsFor_cases hstatus unit) hvalue)
  exact (inv_iff _).2 ⟨⟨hcfg, hstatus, hspeed, hbcnt, hicnt, hresponse, hmemory⟩, hcs⟩

theorem raiseError_inv {s : State} (hl : Lasting s) (hcs : s.cs = 1) (e : ErrorKind) (unit : Byte) :
    Inv (raiseError e unit s) :=
  respond_inv hl hcs (by cases e <;> decide) (.inl rfl) unit

/-! ### Response handling (R174 to R180, R202, R208) -/

section responses
variable {s : State} (hl : Lasting s)
include hl

theorem acmdLoopHead_inv (hn : notInitialized s = true) : Inv (acmdLoopHead s) := by
  rw [acmdLoopHead]
  split
  case isTrue hlt => exact inv_goto hl ⟨hn, hlt⟩
  case isFalse => exact inv_goto hl hn

theorem beginAcmdLoop_inv (hn : notInitialized s = true) : Inv (beginAcmdLoop s) := by
  obtain ⟨hcfg, hstatus, hspeed, hbcnt, -, hresponse, hmemory⟩ := hl
  exact acmdLoopHead_inv (s := { s with icnt := 0 }) ⟨hcfg, hstatus, hspeed, hbcnt, Nat.zero_le _, hresponse, hmemory⟩ hn

theorem afterCmd0_inv (hn : notInitialized s = true) : Inv (afterCmd0 s) := by
  rw [afterCmd0]
  split <;> exact inv_goto hl hn

/-- A response without bit 7 finds the card selected, so the trailing bytes can be read (R147, R150). -/
theorem afterCmd8_inv (hn : notInitialized s = true) (hi : s.idx = idxIfCond) (hcs : isFiller s.resp = false → s.cs = 0) :
    Inv (afterCmd8 s) := by
  rw [afterCmd8]
  split
  case isTrue hresp => exact inv_goto hl ⟨hn, hcs (by rw [hresp]; decide), .inl hi⟩
  case isFalse => exact beginAcmdLoop_inv hl hn

theorem afterR7_inv (hn : notInitialized s = true) : Inv (afterR7 s) := by
  rw [afterR7]
  split
  · exact beginAcmdLoop_inv hl hn
  · exact beginAcmdLoop_inv hl hn

theorem afterCmd55_inv (hn : notInitialized s = true) (hr : s.icnt < s.cfg.nAcmd) : Inv (afterCmd55 s) := by
  rw [afterCmd55]
  split
  · exact inv_goto hl hn
  · exact inv_goto hl ⟨hn, hr⟩

theorem afterAcmd41_inv (hn : notInitialized s = true) (hr : s.icnt < s.cfg.nAcmd) : Inv (afterAcmd41 s) := by
  rw [afterAcmd41]
  split
  · split <;> exact inv_goto hl hn
  · obtain ⟨hcfg, hstatus, hspeed, hbcnt, -, hresponse, hmemory⟩ := hl
    exact acmdLoopHead_inv (s := { s with icnt := s.icnt + 1 }) ⟨hcfg, hstatus, hspeed, hbcnt, hr, hresponse, hmemory⟩ hn

theorem afterCmd1_inv (hn : notInitialized s = true) : Inv (afterCmd1 s) := by
  rw [afterCmd1]
  split <;> exact inv_goto hl hn

theorem afterCmd58_inv (hn : notInitialized s = true) (hi : s.idx = idxReadOcr) (hcs : isFiller s.resp = false → s.cs = 0) :
    Inv (afterCmd58 s) := by
  rw [afterCmd58]
  split
  case isTrue hresp => exact inv_goto hl ⟨hn, hcs (by rw [hresp]; decide), .inr hi⟩
  case isFalse => exact inv_goto hl hn

theorem afterOcr_inv (hn : notInitialized s = true) : Inv (afterOcr s) :=
  inv_goto (s := { s with ccs := capacityBit s.trail0 }) hl hn

theorem tokenHead_inv (h : Transferring s ∧ s.cs = 0) : Inv (tokenHead s) := by
  rw [tokenHead]
  split
  case isTrue hlt => exact inv_goto hl ⟨h, hlt⟩
  case isFalse => exact inv_goto hl h.1

theorem afterCmd17_inv (h : Transferring s) (hcs : isFiller s.resp = false → s.cs = 0) : Inv (afterCmd17 s) := by
  rw [afterCmd17]
  split
  case isTrue hresp => exact tokenHead_inv (s := { s with pcnt := 0 }) hl ⟨h, hcs (by rw [hresp]; decide)⟩
  case isFalse => exact inv_goto hl h

theorem afterCmd24_inv (h : Transferring s) (hcs : isFiller s.resp = false → s.cs = 0) : Inv (afterCmd24 s) := by
  rw [afterCmd24]
  split
  case isTrue hresp => exact inv_goto hl ⟨h, hcs (by rw [hresp]; decide)⟩
  case isFalse => exact inv_goto hl h

theorem busyHead_inv (h : Transferring s ∧ s.cs = 0) : Inv (busyHead s) := by
  rw [busyHead]
  split
  case isTrue hlt => exact inv_goto hl ⟨h, hlt⟩
  case isFalse => exact inv_goto hl h.1

theorem afterDataResponse_inv (d : Byte) (h : Transferring s ∧ s.cs = 0) : Inv (afterDataResponse d s) := by
  rw [afterDataResponse]
  split
  · exact busyHead_inv (s := { s with pcnt := 0 }) hl h
  · exact inv_goto hl h.1

theorem pollHead_inv (h : Sending s ∧ s.cs = 0) : Inv (pollHead s) := by
  rw [pollHead]
  split
  case isTrue hlt => exact inv_goto hl ⟨h, hlt⟩
  case isFalse => exact inv_goto hl h

theorem powerUpHead_inv (h : notInitialized s = true ∧ s.cs = 1) : Inv (powerUpHead s) := by
  rw [powerUpHead]
  split
  case isTrue hlt => exact inv_goto hl ⟨h, hlt⟩
  case isFalse => exact inv_goto hl h.1

/-- `SendCommand` returns to the caller its index tells, with the card selected unless the response is filler (R147, R149). -/
theorem returnCommand_inv {t : State} (h : MaySend s) (hcs : isFiller s.resp = false → s.cs = 0)
    (ht : returnCommand s = .next t) : Inv t := by
  have hindex := h.index
  simp only [commandIndices, List.contains_eq_mem, List.mem_cons, List.not_mem_nil, or_false, decide_eq_true_eq] at hindex
  have hn (hi : transferIndex s.idx = false) : notInitialized s = true := h.notInit hi
  have hr (hi : transferIndex s.idx = true) : Transferring s := h.transferring hi
  rcases hindex with hi | hi | hi | hi | hi | hi | hi | hi
  · cases (returnCommand_cmd0 hi).symm.trans ht; exact afterCmd0_inv hl (hn (by rw [hi]; decide))
  · cases (returnCommand_cmd8 hi).symm.trans ht; exact afterCmd8_inv hl (hn (by rw [hi]; decide)) hi hcs
  · cases (returnCommand_cmd55 hi).symm.trans ht; exact afterCmd55_inv hl (hn (by rw [hi]; decide)) (h.icnt_lt (.inl hi))
  · cases (returnCommand_acmd41 hi).symm.trans ht; exact afterAcmd41_inv hl (hn (by rw [hi]; decide)) (h.icnt_lt (.inr hi))
  · cases (returnCommand_cmd1 hi).symm.trans ht; exact afterCmd1_inv hl (hn (by rw [hi]; decide))
  · cases (returnCommand_cmd58 hi).symm.trans ht; exact afterCmd58_inv hl (hn (by rw [hi]; decide)) hi hcs
  · cases (returnCommand_cmd17 hi).symm.trans ht; exact afterCmd17_inv hl (hr (by rw [hi]; decide)) hcs
  · cases (returnCommand_cmd24 hi).symm.trans ht; exact afterCmd24_inv hl (hr (by rw [hi]; decide)) hcs

/-- `ReadTrail` returns to step 3 or step 6 of INITIALIZE. -/
theorem returnTrail_inv {t : State} (h : Trailing s) (ht : returnTrail s = .next t) : Inv t := by
  rcases h.index with hi | hi
  · cases (returnTrail_cmd8 hi).symm.trans ht; exact afterR7_inv hl h.notInit
  · cases (returnTrail_cmd58 hi).symm.trans ht; exact afterOcr_inv hl h.notInit

/-! ### Operations -/

/-- The next sector's command, or the end of the operation (R206, R214). -/
theorem sectorHead_inv {cmd : Phase} (hcmd : cmd = .rdCmd ∨ cmd = .wrCmd) (hready : notInitialized s = false)
    (hunit : s.unit = unitValid) (hle : s.sidx ≤ s.count.toNat) (hcs : s.cs = 1) : Inv (sectorHead cmd s) := by
  rw [sectorHead]
  split
  case isTrue => exact respond_inv hl hcs (.inl rfl) (.inl rfl) _
  case isFalse hne =>
    have htransfer : Transferring { s with sect := sectorIndex s.sector s.sidx } := ⟨hready, hunit, Nat.lt_of_le_of_ne hle hne⟩
    rcases hcmd with rfl | rfl <;> exact inv_goto (s := { s with sect := sectorIndex s.sector s.sidx }) hl htransfer

/-- The end of INITIALIZE's success path: READY, at `F_FAST` (R27, R181). -/
theorem speedUp_inv (hcs : s.cs = 1) : Inv (speedUp s) := by
  obtain ⟨hcfg, hstatus, -, hbcnt, hicnt, hresponse, hmemory⟩ := hl
  have hzero : s.status &&& 0xFE#8 = 0x00 := by rcases hstatus with h | h <;> rw [h] <;> rfl
  exact respond_inv (s := clearNoinit (setSpeed s.cfg.fFast s))
    ⟨hcfg, .inl hzero, fun _ => rfl, hbcnt, hicnt, hresponse, hmemory⟩ hcs (.inl rfl) (.inl rfl) unitValid

theorem answerQuery_inv {answer : Word} (ha : answer = 0 ∨ answer = 1 ∨ answer = 512) (hcs : s.cs = 1) (unit : Byte) :
    Inv (answerQuery answer unit s) := by
  rw [answerQuery]
  split
  · exact raiseError_inv hl hcs _ _
  · split
    · exact raiseError_inv hl hcs _ _
    · exact respond_inv hl hcs (.inl rfl) ha _

/-- INITIALIZE begins: NOINIT is set before the first primitive call (R172). -/
theorem initStart_inv : Inv (goto .iSpeed (initStart s)) := by
  obtain ⟨hcfg, hstatus, -, hbcnt, hicnt, hresponse, hmemory⟩ := hl
  have hone : s.status ||| 0x01#8 = 0x01 := by rcases hstatus with h | h <;> rw [h] <;> rfl
  have hn : notInitialized (initStart s) = true := by
    show (s.status ||| 0x01#8).getLsbD 0 = true
    rw [hone]; rfl
  refine inv_goto (s := initStart s) ⟨hcfg, .inr hone, fun h => ?_, hbcnt, hicnt, hresponse, hmemory⟩ hn
  rw [hn] at h; cases h

end responses

/-- A READ or WRITE that passes its pre-checks: the device is READY, the unit valid, COUNT not 0 (R201). -/
theorem transferCheck_none {unit : Byte} {count : Word} {s : State} (h : transferCheck unit count s = none) :
    unit = unitValid ∧ count ≠ 0 ∧ notInitialized s = false := by
  unfold transferCheck at h
  split_ifs at h with hunit hcount hn
  exact ⟨not_not.mp hunit, hcount, Bool.eq_false_of_not_eq_true hn⟩

/-- The first label of READ or WRITE (R206, R214). -/
theorem firstSector_inv {cmd : Phase} {s : State} (hl : Lasting s) (hcs : s.cs = 1) (hcmd : cmd = .rdCmd ∨ cmd = .wrCmd)
    (h : transferCheck s.unit s.count s = none) : Inv (sectorHead cmd { s with sidx := 0 }) := by
  obtain ⟨hunit, -, hready⟩ := transferCheck_none h
  exact sectorHead_inv (s := { s with sidx := 0 }) hl hcmd hready hunit (Nat.zero_le _) hcs

/-- A request that leaves IDLE keeps the invariant, whatever it decodes to (R29). -/
theorem startRequest_inv {s t : State} (hl : Lasting s) (hcs : s.cs = 1) (ht : startRequest s = .next t) : Inv t := by
  unfold startRequest at ht
  cases hd : decodeRequest (request s) with
  | error e =>
    simp only [hd] at ht
    cases ht
    exact raiseError_inv hl hcs _ _
  | ok i =>
    simp only [hd] at ht
    rcases decodeRequest_cases hd with ⟨-, rfl⟩ | ⟨-, rfl⟩ | rfl | rfl | rfl | rfl | rfl
    · cases ht
      split
      · exact initStart_inv hl
      · exact respond_inv hl hcs (.inl rfl) (.inl rfl) _
    · cases ht; exact respond_inv hl hcs (.inl rfl) (.inl rfl) _
    · dsimp only at ht
      split at ht <;> cases ht
      · exact raiseError_inv hl hcs _ _
      · next hcheck => exact firstSector_inv hl hcs (.inl rfl) hcheck
    · dsimp only at ht
      split at ht <;> cases ht
      · exact raiseError_inv hl hcs _ _
      · next hcheck => exact firstSector_inv hl hcs (.inr rfl) hcheck
    · cases ht; exact answerQuery_inv hl (.inl rfl) hcs _
    · cases ht; exact answerQuery_inv hl (.inr (.inr rfl)) hcs _
    · cases ht; exact answerQuery_inv hl (.inr (.inl rfl)) hcs _

/-- Sampling takes over a buffer the host hands in, canonical like the others (R32, log 13). -/
theorem sample_lasting {s : State} {c : HostCall} {rest : List HostCall} (hl : Lasting s) (hh : s.host = c :: rest) :
    Lasting (sample c rest s) := by
  obtain ⟨hcfg, hstatus, hspeed, hbcnt, hicnt, hresponse, hbuf, hhost⟩ := hl
  rw [hh] at hhost
  have hnew : (c.buf.getD s.buf).wf = true := by
    cases hc : c.buf with
    | none => exact hbuf
    | some m => exact hhost c List.mem_cons_self m hc
  exact ⟨hcfg, hstatus, hspeed, hbcnt, hicnt, hresponse, hnew, fun d hd => hhost d (List.mem_cons_of_mem c hd)⟩

/-- `Deselect` returns to its caller (R29). -/
theorem returnDeselect_inv {d : DeselCaller} {s : State} (hl : Lasting s) (h : LabelInv (.dIdle d) s) :
    Inv (returnDeselect d s) := by
  cases d with
  | initDone => exact inv_goto hl h
  | initFail => exact raiseError_inv hl h.2 _ _
  | xFail => exact raiseError_inv hl h.2 _ _
  | rdDesel =>
    obtain ⟨⟨hready, hunit, hlt⟩, hcs⟩ := h
    exact sectorHead_inv (s := { s with sidx := s.sidx + 1 }) hl (.inl rfl) hready hunit hlt hcs
  | wrDesel =>
    obtain ⟨⟨hready, hunit, hlt⟩, hcs⟩ := h
    exact sectorHead_inv (s := { s with sidx := s.sidx + 1 }) hl (.inr rfl) hready hunit hlt hcs

/-- A command is entered by whoever may send it, with RESP a filler (R143). -/
theorem enterCommand_inv {index : BitVec 6} {arg : Word} {s : State} (hl : Lasting s)
    (h : MaySend (loadDescriptor index arg s)) : Inv (enterCommand index arg s) :=
  inv_goto (s := loadDescriptor index arg s) hl ⟨h, isFiller_ff⟩

/-- INITIALIZE enters one of its commands. -/
theorem enterInit_inv {index : BitVec 6} {arg : Word} {s : State} (hl : Lasting s) (hn : notInitialized s = true)
    (hi : commandIndices.contains index = true) (ht : transferIndex index = false)
    (hr : index = idxApp ∨ index = idxSdOpCond → s.icnt < s.cfg.nAcmd) : Inv (enterCommand index arg s) :=
  enterCommand_inv hl ⟨hi, fun _ => hn, fun h => (nomatch ht.symm.trans h), hr⟩

/-- READ or WRITE enters its data command. -/
theorem enterTransfer_inv {index : BitVec 6} {arg : Word} {s : State} (hl : Lasting s) (h : Transferring s)
    (hi : index = idxReadBlock ∨ index = idxWriteBlock) : Inv (enterCommand index arg s) := by
  have hno : ¬ (index = idxApp ∨ index = idxSdOpCond) := by rcases hi with rfl | rfl <;> decide
  have ht : transferIndex index = true := by rcases hi with rfl | rfl <;> rfl
  have hlegal : commandIndices.contains index = true := by rcases hi with rfl | rfl <;> rfl
  exact enterCommand_inv hl ⟨hlegal, fun h => (nomatch ht.symm.trans h), fun _ => h, fun h => absurd h hno⟩

/-- BCNT may be set to any count of payload bytes (R30). -/
theorem lasting_bcnt {s : State} {n : Nat} (hl : Lasting s) (hn : n ≤ sectorBytes) : Lasting { s with bcnt := n } := by
  obtain ⟨hcfg, hstatus, hspeed, -, hicnt, hresponse, hmemory⟩ := hl
  exact ⟨hcfg, hstatus, hspeed, hn, hicnt, hresponse, hmemory⟩

/-- The payload begins with byte 0 (R204, R209). -/
theorem firstByte_inv {p : Phase} {s : State} (hp : p = .rdData ∨ p = .wrData) (hl : Lasting s)
    (h : Transferring s ∧ s.cs = 0) :
    Inv (goto p { s with bcnt := 0 }) := by
  have hlt : 0 < sectorBytes := by decide
  rcases hp with rfl | rfl <;>
    exact inv_goto (s := { s with bcnt := 0 }) (lasting_bcnt hl (Nat.zero_le _)) ⟨h, hlt⟩

/-- Token polling hears one byte (R203). -/
theorem rdToken_inv {s t : State} (hl : Lasting s) (h : Transferring s ∧ s.cs = 0) (hp : s.phase = .rdToken)
    (ht : tick s = .next t) : Inv t := by
  simp only [tick, hp] at ht
  split at ht
  case isTrue =>
    cases ht
    exact firstByte_inv (s := waitOnce s) (.inl rfl) hl h
  case isFalse =>
    split at ht <;> cases ht
    · exact tokenHead_inv (s := waitOnce s) hl h
    · exact inv_goto (s := waitOnce s) hl h.1

/-- A payload byte of READ is stored and counted (R204). -/
theorem readByte_inv {s : State} (hl : Lasting s) (h : Transferring s ∧ s.cs = 0) (hb : s.bcnt < sectorBytes) :
    Inv (goto (if s.bcnt + 1 < sectorBytes then .rdData else .rdCrc0) (readByte s)) := by
  have hread : Lasting (readByte s) := by
    obtain ⟨hcfg, hstatus, hspeed, -, hicnt, hresponse, hbuf, hhost⟩ := hl
    exact ⟨hcfg, hstatus, hspeed, hb, hicnt, hresponse, Memory.wf_write _ _ _ hbuf, hhost⟩
  split
  case isTrue hlt => exact inv_goto hread ⟨h, hlt⟩
  case isFalse => exact inv_goto hread h

/-- A payload byte of WRITE is sent and counted (R209). -/
theorem writeByte_inv {s : State} (hl : Lasting s) (h : Transferring s ∧ s.cs = 0) (hb : s.bcnt < sectorBytes) :
    Inv (goto (if s.bcnt + 1 < sectorBytes then .wrData else .wrCrc0) (writeByte s)) := by
  have hwrite : Lasting (writeByte s) := lasting_bcnt hl hb
  split
  case isTrue hlt => exact inv_goto hwrite ⟨h, hlt⟩
  case isFalse => exact inv_goto hwrite h

/-- The bus is slowed down only while the device is NOT-INITIALIZED (R172, R173). -/
theorem setSpeed_lasting {s : State} (hl : Lasting s) (hn : notInitialized s = true) (hz : Nat) : Lasting (setSpeed hz s) := by
  obtain ⟨hcfg, hstatus, -, hrest⟩ := hl
  exact ⟨hcfg, hstatus, fun h => (nomatch hn.symm.trans h), hrest⟩

/-- `Deselect` drives the line high (R141). -/
theorem dDesel_inv {d : DeselCaller} {s : State} (hl : Lasting s) (h : LabelInv (.dDesel d) s) :
    Inv (goto (.dIdle d) (select false s)) := by
  cases d with
  | initDone | initFail | xFail => exact inv_goto hl ⟨h, rfl⟩
  | rdDesel | wrDesel => exact inv_goto hl ⟨h.1, rfl⟩

/-- One call of the sequencer keeps the invariant, label by label (R29). -/
theorem tick_inv {s t : State} (h : Inv s) (ht : tick s = .next t) : Inv t := by
  have hbuffer := inBuffer_of_inv h
  obtain ⟨hl, hlabel⟩ := (inv_iff s).1 h
  cases hp : s.phase <;> rw [hp] at hlabel <;> simp only [tick, hp] at ht
  case idle =>
    cases hh : s.host with
    | nil => simp only [hh] at ht; cases ht; exact h
    | cons c rest => simp only [hh] at ht; exact startRequest_inv (sample_lasting hl hh) hlabel ht
  case cDesel => cases ht; exact inv_goto hl ⟨hlabel, rfl⟩
  case cResync => cases ht; exact inv_goto hl hlabel
  case cSel => cases ht; exact inv_goto hl ⟨hlabel.1, rfl⟩
  case cB0 | cB1 | cB2 | cB3 | cB4 => cases ht; exact inv_goto hl hlabel
  case cB5 => cases ht; exact pollHead_inv (s := xchg s.crc s) hl hlabel
  case cPoll =>
    obtain ⟨⟨hsend, hcs⟩, -⟩ := hlabel
    split at ht
    case isTrue hfill => cases ht; exact pollHead_inv (s := pollOnce s) hl ⟨⟨hsend.maySend, hfill⟩, hcs⟩
    case isFalse => exact returnCommand_inv (s := pollOnce s) hl hsend.maySend (fun _ => hcs) ht
  case cToDesel => cases ht; exact inv_goto hl ⟨hlabel.1, rfl⟩
  case cToIdle =>
    obtain ⟨hsend, -⟩ := hlabel
    exact returnCommand_inv (s := xchg idleByte s) hl hsend.maySend (fun h => (nomatch hsend.filler.symm.trans h)) ht
  case t0 | t1 | t2 => cases ht; exact inv_goto hl hlabel
  case t3 => exact returnTrail_inv (s := readTrail3 s) hl hlabel ht
  case dDesel d => cases ht; exact dDesel_inv hl hlabel
  case dIdle d => cases ht; exact returnDeselect_inv (s := xchg idleByte s) hl (by cases d <;> exact hlabel)
  case iSpeed => cases ht; exact inv_goto (setSpeed_lasting hl hlabel _) hlabel
  case iCshigh => cases ht; exact powerUpHead_inv (s := { select false s with pcnt := 0 }) hl ⟨hlabel, rfl⟩
  case iPwrup => cases ht; exact powerUpHead_inv (s := { xchg idleByte s with pcnt := s.pcnt + 1 }) hl hlabel.1
  case iCmd0 | iCmd8 | iCmd1 | iCmd58 => cases ht; exact enterInit_inv hl hlabel rfl rfl (fun h => absurd h (by decide))
  case iCmd55 | iAcmd41 => cases ht; exact enterInit_inv hl hlabel.1 rfl rfl (fun _ => hlabel.2)
  case iR7 | iOcr => cases ht; exact inv_goto hl hlabel
  case iDone | iFail | rdDesel | wrDesel | xFail => cases ht; exact inv_goto hl hlabel
  case iSpeedUp => cases ht; exact speedUp_inv hl hlabel.2
  case rdCmd => cases ht; exact enterTransfer_inv hl hlabel (.inl rfl)
  case wrCmd => cases ht; exact enterTransfer_inv hl hlabel (.inr rfl)
  case rdToken => exact rdToken_inv hl hlabel.1 hp (by simpa only [tick, hp] using ht)
  case rdData =>
    rw [hbuffer (.inl hp)] at ht
    cases ht
    exact readByte_inv hl hlabel.1 hlabel.2
  case wrData =>
    rw [hbuffer (.inr hp)] at ht
    cases ht
    exact writeByte_inv hl hlabel.1 hlabel.2
  case rdCrc0 | rdCrc1 | wrCrc0 | wrCrc1 | wrTrail => cases ht; exact inv_goto hl hlabel
  case wrToken =>
    cases ht
    exact firstByte_inv (s := xchg tokenStart s) (.inr rfl) hl hlabel
  case wrResp => cases ht; exact afterDataResponse_inv (s := xchg idleByte s) hl _ hlabel
  case wrBusy =>
    split at ht <;> cases ht
    · exact inv_goto (s := waitOnce s) hl hlabel.1
    · exact busyHead_inv (s := waitOnce s) hl hlabel.1

/-! ### The step -/

/-- What every call of the sequencer keeps, and the entry of `SendCommand` at C_DESEL as well, a step of the machine keeps: it is a
run of such calls (R28). -/
theorem step_preserves {P : State → Prop} (htick : ∀ s t, P s → tick s = .next t → P t)
    (henter : ∀ s, s.phase = .cDesel → P s → P (enterCommand s.idx s.arg s)) {s t : State} (hs : P s)
    (ht : step s = .next t) : P t := by
  by_cases hidle : s.phase = .idle
  · cases hh : s.host with
    | nil => exact htick s t hs (by simp only [tick, step, hidle, hh] at ht ⊢; exact ht)
    | cons c rest =>
      obtain ⟨u, hu, hrun⟩ := step_idle_reaches hidle hh
      cases hu.symm.trans ht
      exact Reaches.preserves htick hrun.to_reflTransGen hs
  · by_cases hdesel : s.phase = .cDesel
    · cases hd : decodeFrame (descriptor s) with
      | ok i =>
        obtain ⟨u, hu, hrun⟩ := exec_frame_reaches hd
        have hstep : step s = exec i s := by simp only [step, hdesel, hd]
        cases hu.symm.trans (hstep.symm.trans ht)
        exact Reaches.preserves htick hrun.to_reflTransGen (henter s hdesel hs)
      | error e => exact htick s t hs (by simp only [step, hdesel, hd] at ht; exact ht)
    · exact htick s t hs ((step_eq_tick hidle hdesel).symm.trans ht)

/-- Entering `SendCommand` afresh at C_DESEL keeps the invariant: it loads the descriptor it finds. -/
theorem reenterCommand_inv {s : State} (hp : s.phase = .cDesel) (h : Inv s) : Inv (enterCommand s.idx s.arg s) := by
  obtain ⟨hl, hlabel⟩ := (inv_iff s).1 h
  rw [hp] at hlabel
  exact enterCommand_inv hl hlabel.maySend

/-- Settles O13: the sequencer completes where the invariant holds, and `tick_inv`. -/
theorem tickKeepsInvariant : Obligations.TickKeepsInvariant := by
  intro s h
  obtain ⟨t, ht⟩ := tick_completes_of_inv h
  exact ⟨t, ht, tick_inv h ht⟩

/-- Settles O11: a step is a run of sequencer calls, each of which keeps the invariant. -/
theorem stepKeepsInvariant : Obligations.StepKeepsInvariant :=
  fun _ _ h ht => step_preserves (fun _ _ => tick_inv) (fun _ => reenterCommand_inv) h ht

/-- Settles O2: the values of R37 and of log 1, 9 to 12 meet every clause, at the label IDLE. -/
theorem resetMeetsInvariant : Obligations.ResetMeetsInvariant :=
  (inv_iff _).2
    ⟨⟨by decide, .inr rfl, fun h => (nomatch h), by decide, Nat.zero_le _, by decide, rfl, fun _ h => (nomatch h)⟩, rfl⟩

end Sys2Proof.Machine

/-! PROOFS. What every step leaves unchanged, where operations end, and the steps taken in IDLE (10_state.md R20, R23, R37 to
R39). -/

namespace Sys2Proof.Machine

/-! ### The configuration (R20) -/

@[simp] theorem afterCmd0_cfg (s : State) : (afterCmd0 s).cfg = s.cfg := rfl
@[simp] theorem afterCmd8_cfg (s : State) : (afterCmd8 s).cfg = s.cfg := by rw [afterCmd8_spec]
@[simp] theorem afterR7_cfg (s : State) : (afterR7 s).cfg = s.cfg := by rw [afterR7_spec]
@[simp] theorem afterCmd55_cfg (s : State) : (afterCmd55 s).cfg = s.cfg := rfl
@[simp] theorem afterAcmd41_cfg (s : State) : (afterAcmd41 s).cfg = s.cfg := by rw [afterAcmd41_spec]
@[simp] theorem afterCmd1_cfg (s : State) : (afterCmd1 s).cfg = s.cfg := rfl
@[simp] theorem afterCmd58_cfg (s : State) : (afterCmd58 s).cfg = s.cfg := rfl
@[simp] theorem afterOcr_cfg (s : State) : (afterOcr s).cfg = s.cfg := rfl
@[simp] theorem afterCmd17_cfg (s : State) : (afterCmd17 s).cfg = s.cfg := by rw [afterCmd17]; split <;> rfl
@[simp] theorem afterCmd24_cfg (s : State) : (afterCmd24 s).cfg = s.cfg := rfl
@[simp] theorem afterDataResponse_cfg (d : Byte) (s : State) : (afterDataResponse d s).cfg = s.cfg := by
  rw [afterDataResponse]; split <;> rfl
@[simp] theorem sectorHead_cfg (p : Phase) (s : State) : (sectorHead p s).cfg = s.cfg := by rw [sectorHead]; split <;> rfl
@[simp] theorem answerQuery_cfg (a : Word) (unit : Byte) (s : State) : (answerQuery a unit s).cfg = s.cfg := by
  rw [answerQuery]; split_ifs <;> rfl
@[simp] theorem returnDeselect_cfg (d : DeselCaller) (s : State) : (returnDeselect d s).cfg = s.cfg := by
  cases d with
  | rdDesel | wrDesel => exact sectorHead_cfg _ _
  | initDone | initFail | xFail => rfl

/-- Whichever command returns, its response handling keeps the configuration. -/
theorem returnCommand_cfg {s t : State} (ht : returnCommand s = .next t) : t.cfg = s.cfg := by
  unfold returnCommand at ht
  split_ifs at ht <;> cases ht <;> simp

theorem returnTrail_cfg {s t : State} (ht : returnTrail s = .next t) : t.cfg = s.cfg := by
  unfold returnTrail at ht
  split_ifs at ht <;> cases ht <;> simp

theorem inBuffer_next {s t u : State} (h : inBuffer s t = .next u) : u = t := by
  unfold inBuffer at h
  split_ifs at h
  cases h; rfl

theorem startRequest_cfg {s t : State} (ht : startRequest s = .next t) : t.cfg = s.cfg := by
  unfold startRequest at ht
  cases hd : decodeRequest (request s) with
  | error e => simp only [hd] at ht; cases ht; rfl
  | ok i =>
    simp only [hd] at ht
    rcases decodeRequest_cases hd with ⟨-, rfl⟩ | ⟨-, rfl⟩ | rfl | rfl | rfl | rfl | rfl
    · cases ht; split <;> rfl
    · cases ht; rfl
    · dsimp only at ht
      split at ht <;> cases ht
      · rfl
      · exact sectorHead_cfg _ _
    · dsimp only at ht
      split at ht <;> cases ht
      · rfl
      · exact sectorHead_cfg _ _
    all_goals cases ht; exact answerQuery_cfg _ _ _

/-- No call of the sequencer writes the configuration. -/
theorem tick_cfg {s t : State} (ht : tick s = .next t) : t.cfg = s.cfg := by
  cases hp : s.phase <;> simp only [tick, hp] at ht
  case idle =>
    cases hh : s.host with
    | nil => simp only [hh] at ht; cases ht; rfl
    | cons c rest => simp only [hh] at ht; exact (startRequest_cfg ht).trans (sample_cfg c rest s)
  case cPoll =>
    split at ht
    · cases ht; rfl
    · exact (returnCommand_cfg ht).trans (pollOnce_cfg s)
  case cToIdle => exact (returnCommand_cfg ht).trans (xchg_cfg idleByte s)
  case t3 => exact (returnTrail_cfg ht).trans rfl
  case dIdle => cases ht; exact returnDeselect_cfg _ _
  case rdToken =>
    split at ht
    · cases ht; rfl
    · split at ht <;> cases ht <;> rfl
  case rdData | wrData => rw [inBuffer_next ht]; rfl
  case wrResp => cases ht; exact afterDataResponse_cfg _ _
  case wrBusy => split at ht <;> cases ht <;> rfl
  all_goals cases ht; rfl

/-! ### Where operations end (R26, R39) -/

/-- In IDLE with the line high. -/
def Rested (s : State) : Prop := s.phase = .idle ∧ s.cs = 1

theorem respond_rested {s : State} (h : s.cs = 1) (code : BitVec 3) (value : Word) (unit : Byte) :
    Rested (respond code value unit s) := ⟨rfl, h⟩

theorem raiseError_rested {s : State} (h : s.cs = 1) (e : ErrorKind) (unit : Byte) : Rested (raiseError e unit s) := ⟨rfl, h⟩

/-- The error exit deselects, wherever the line was (R256). -/
theorem errorExit_rested (e : ErrorKind) (unit : Byte) (s : State) : Rested (errorExit e unit s) := ⟨rfl, rfl⟩

theorem initDone_rested (s : State) : Rested (initDone s) := ⟨rfl, rfl⟩

theorem legacyFallback_rested (s : State) : Rested (legacyFallback s) := by
  rw [legacyFallback]
  split
  · exact initDone_rested _
  · exact errorExit_rested _ _ _

theorem afterLoop_rested (s : State) : Rested (afterLoop s) := by
  rw [afterLoop]
  split <;> exact initDone_rested _

/-- Every way out of step 4 goes through `Deselect` (R181, R182). -/
theorem acmdLoop_rested (n : Nat) (s : State) : Rested (acmdLoop n s) := by
  induction n generalizing s with
  | zero => exact errorExit_rested _ _ _
  | succ n ih =>
    rw [acmdLoop]
    dsimp only
    split_ifs
    · exact legacyFallback_rested _
    · exact afterLoop_rested _
    · exact ih _

theorem initializeCard_rested (s : State) : Rested (initializeCard s) := by
  rw [initializeCard]
  split
  · exact acmdLoop_rested _ _
  · exact errorExit_rested _ _ _

/-- A sector that was read ends with `Deselect` (R205). -/
theorem readSector_cs {s : State} (h : ¬ (readSector s).phase = .xFail) : (readSector s).cs = 1 := by
  rcases readSector_cases s with ⟨hp, hs⟩ | ⟨-, hp, hs⟩ | ⟨-, -, -, hs⟩
  · exact absurd (hs ▸ hp) h
  · exact absurd (hs ▸ hp) h
  · rw [hs]; rfl

/-- A sector that was written ends with `Deselect` (R213). -/
theorem writeSector_cs {s : State} (h : ¬ (writeSector s).phase = .xFail) : (writeSector s).cs = 1 := by
  rcases writeSector_cases s with ⟨hp, hs⟩ | ⟨-, hp, hs⟩ | ⟨-, -, ⟨hp, hs⟩ | ⟨-, hs⟩⟩
  · exact absurd (hs ▸ hp) h
  · exact absurd (hs ▸ hp) h
  · exact absurd (hs ▸ hp) h
  · rw [hs]; rfl

/-- The sector loop ends in IDLE, when every sector that does not fail ends with `Deselect`. -/
theorem sectorLoop_rested {run : State → State} (hrun : ∀ s, ¬ (run s).phase = .xFail → (run s).cs = 1) (unit : Byte)
    (sector : Word) (n : Nat) {s : State} (hcs : s.cs = 1) : Rested (sectorLoop run unit sector n s) := by
  induction n generalizing s with
  | zero => exact respond_rested hcs _ _ _
  | succ n ih =>
    rw [sectorLoop]
    split
    case isTrue => exact errorExit_rested _ _ _
    case isFalse h => exact ih (hrun _ h)

theorem readSectors_rested (unit : Byte) (sector : Word) (n : Nat) {s : State} (hcs : s.cs = 1) :
    Rested (readSectors unit sector n s) := by
  rw [readSectors_eq_sectorLoop]
  exact sectorLoop_rested (fun _ => readSector_cs) unit sector n hcs

theorem writeSectors_rested (unit : Byte) (sector : Word) (n : Nat) {s : State} (hcs : s.cs = 1) :
    Rested (writeSectors unit sector n s) := by
  rw [writeSectors_eq_sectorLoop]
  exact sectorLoop_rested (fun _ => writeSector_cs) unit sector n hcs

theorem answerQuery_rested {s : State} (hcs : s.cs = 1) (answer : Word) (unit : Byte) : Rested (answerQuery answer unit s) := by
  rw [answerQuery]
  split_ifs
  · exact raiseError_rested hcs _ _
  · exact raiseError_rested hcs _ _
  · exact respond_rested hcs _ _ _

/-- Whatever a request decodes to ends in IDLE with the line high. -/
theorem exec_request_rested {r : Request} {i : Instr} {s t : State} (hcs : s.cs = 1) (hd : decodeRequest r = .ok i)
    (ht : exec i s = .next t) : Rested t := by
  rcases decodeRequest_cases hd with ⟨-, rfl⟩ | ⟨-, rfl⟩ | rfl | rfl | rfl | rfl | rfl
  · cases ht
    split
    · exact initializeCard_rested s
    · exact respond_rested hcs _ _ _
  · cases ht; exact respond_rested hcs _ _ _
  · cases hcheck : transferCheck r.unit r.count s with
    | some e => cases (execHostRead_rejected hcheck).symm.trans ht; exact raiseError_rested hcs _ _
    | none => cases (execHostRead_accepted hcheck).symm.trans ht; exact readSectors_rested _ _ _ hcs
  · cases hcheck : transferCheck r.unit r.count s with
    | some e => cases (execHostWrite_rejected hcheck).symm.trans ht; exact raiseError_rested hcs _ _
    | none => cases (execHostWrite_accepted hcheck).symm.trans ht; exact writeSectors_rested _ _ _ hcs
  all_goals cases ht; exact answerQuery_rested hcs _ _

/-! ### NOT-INITIALIZED (R23) -/

/-- On a NOT-INITIALIZED device READ and WRITE fail a pre-check (R201). -/
theorem transferCheck_notInit {s : State} (hn : notInitialized s = true) (unit : Byte) (count : Word) :
    ∃ e, transferCheck unit count s = some e ∧ (e = .parameterError ∨ e = .notReady ∧ unit = unitValid) := by
  unfold transferCheck
  split_ifs with hunit
  · exact ⟨_, rfl, .inl rfl⟩
  · exact ⟨_, rfl, .inl rfl⟩
  · exact ⟨_, rfl, .inr ⟨rfl, not_not.mp hunit⟩⟩

/-- On a NOT-INITIALIZED device a query fails the gate (R231). -/
theorem answerQuery_notInit {s : State} (hn : notInitialized s = true) (answer : Word) (unit : Byte) :
    ∃ e, answerQuery answer unit s = raiseError e unit s ∧ (e = .parameterError ∨ e = .notReady ∧ unit = unitValid) := by
  unfold answerQuery
  split_ifs with hunit
  · exact ⟨_, rfl, .inl rfl⟩
  · exact ⟨_, rfl, .inr ⟨rfl, not_not.mp hunit⟩⟩

/-- Any request but INITIALIZE and STATUS is turned away by a NOT-INITIALIZED device. -/
theorem step_notInit {s : State} {c : HostCall} {rest : List HostCall} (hp : s.phase = .idle) (hh : s.host = c :: rest)
    (hinit : c.req.op ≠ opInitialize) (hstatus : c.req.op ≠ opStatus) (hn : notInitialized s = true) :
    ∃ e, step s = .next (raiseError e c.req.unit (sample c rest s)) ∧
      (e = .parameterError ∨ e = .notReady ∧ c.req.unit = unitValid) := by
  cases hd : decodeRequest c.req with
  | error _ => exact ⟨.parameterError, step_of_illegal_request hp hh hd, .inl rfl⟩
  | ok i =>
    have hn' : notInitialized (sample c rest s) = true := hn
    rw [step_of_request hp hh hd]
    rcases decodeRequest_cases hd with ⟨h, -⟩ | ⟨h, -⟩ | rfl | rfl | rfl | rfl | rfl
    · exact absurd h hinit
    · exact absurd h hstatus
    · obtain ⟨e, he, hkind⟩ := transferCheck_notInit hn' c.req.unit c.req.count
      exact ⟨e, execHostRead_rejected he, hkind⟩
    · obtain ⟨e, he, hkind⟩ := transferCheck_notInit hn' c.req.unit c.req.count
      exact ⟨e, execHostWrite_rejected he, hkind⟩
    all_goals
      obtain ⟨e, he, hkind⟩ := answerQuery_notInit hn' _ c.req.unit
      exact ⟨e, congrArg Host.Outcome.next he, hkind⟩

/-! ### The obligations -/

/-- Settles O7: no call of the sequencer writes the configuration, so no step does. -/
theorem stepKeepsConfiguration : Obligations.StepKeepsConfiguration :=
  fun s _ ht => step_preserves (P := fun u => u.cfg = s.cfg) (fun _ _ h hu => (tick_cfg hu).trans h) (fun _ _ h => h) rfl ht

/-- Settles O14: every operation ends in `Deselect`, or makes no primitive call. -/
theorem operationsEndDeselected : Obligations.OperationsEndDeselected := by
  intro s c rest t hp hh hcs ht
  cases hd : decodeRequest c.req with
  | ok i => exact exec_request_rested (s := sample c rest s) hcs hd ((step_of_request hp hh hd).symm.trans ht)
  | error e =>
    cases (step_of_illegal_request hp hh hd).symm.trans ht
    exact raiseError_rested (s := sample c rest s) hcs _ _

/-- Settles O1: the reset values of R37. -/
theorem resetLeavesNotInitialized : Obligations.ResetLeavesNotInitialized :=
  ⟨rfl, rfl, rfl, rfl, rfl, rfl, rfl, rfl⟩

/-- Settles O3: the first case of the step in IDLE. -/
theorem stepRunsDecodedRequest : Obligations.StepRunsDecodedRequest :=
  fun _ _ _ _ => step_of_request

/-- Settles O5: with an empty list of host calls the step in IDLE is the identity. -/
theorem idleEngineWaits : Obligations.IdleEngineWaits := by
  intro s hp hh
  simp only [step, hp, hh]

/-- Settles O47: the request is answered by `raiseError`, which writes the response registers only. -/
theorem notInitializedMakesNoTraffic : Obligations.NotInitializedMakesNoTraffic := by
  intro s c rest hp hh hop hn
  have hinit : c.req.op ≠ opInitialize := by rcases hop with h | h | h <;> rw [h] <;> decide
  have hstatus : c.req.op ≠ opStatus := by rcases hop with h | h | h <;> rw [h] <;> decide
  obtain ⟨e, ht, hkind⟩ := step_notInit hp hh hinit hstatus hn
  refine ⟨_, ht, rfl, rfl, rfl, rfl, rfl, rfl, ?_⟩
  rcases hkind with rfl | ⟨rfl, hunit⟩
  · exact .inl rfl
  · exact .inr ⟨rfl, hunit⟩

end Sys2Proof.Machine

/-! PROOFS. The memory rules (20_memory.md): the argument of a sector by addressing mode, and what each instruction does to the
Transfer Buffer. `Adds P` bounds the events a run adds; it is proved procedure by procedure, from the primitives up. -/

namespace Sys2Proof.Machine

/-! ### The block argument (R64) -/

theorem blockArg_byte_toNat (s : Word) : (blockArg .byte s).toNat = s.toNat * 512 % 2 ^ 32 := BitVec.toNat_mul s 512#32

/-- Reducing `s * 2^9` modulo `2^32` keeps the low 23 bits of `s`. -/
theorem blockArg_byte_eq_append (s : Word) : blockArg .byte s = s.extractLsb' 0 23 ++ 0#9 := by
  apply BitVec.eq_of_toNat_eq
  calc (blockArg .byte s).toNat
    _ = s.toNat * 2 ^ 9 % (2 ^ 23 * 2 ^ 9) := blockArg_byte_toNat s
    _ = s.toNat % 2 ^ 23 * 2 ^ 9 := Nat.mul_mod_mul_right _ _ _
    _ = (s.extractLsb' 0 23 ++ 0#9).toNat := by
      rw [BitVec.toNat_append, BitVec.extractLsb'_toNat, Nat.shiftLeft_eq, BitVec.toNat_zero, Nat.or_zero, Nat.shiftRight_zero]

/-! ### The events a run may add (R6, R61, R62) -/

/-- A primitive call on the bus, not a buffer access. -/
def OnBus : Event → Prop
  | .memRead _ _ | .memWrite _ _ => False
  | .spd _ | .sel _ | .x _ _ => True

/-- What READ may add for a buffer of `size` bytes. -/
def StoresBelow (size : Nat) : Event → Prop
  | .memWrite off _ => off < size
  | e => OnBus e

/-- What WRITE may add for a buffer of `size` bytes. -/
def LoadsBelow (size : Nat) : Event → Prop
  | .memRead off _ => off < size
  | e => OnBus e

/-- What an instruction may add: R61 and R62 as a table. -/
def mayAdd : Instr → Event → Prop
  | .hostRead _ _ count => StoresBelow (bufSize count)
  | .hostWrite _ _ count => LoadsBelow (bufSize count)
  | _ => OnBus

theorem OnBus.storesBelow {e : Event} (h : OnBus e) (size : Nat) : StoresBelow size e := by
  cases e with
  | memWrite => exact h.elim
  | spd | sel | x | memRead => exact h

theorem OnBus.loadsBelow {e : Event} (h : OnBus e) (size : Nat) : LoadsBelow size e := by
  cases e with
  | memRead => exact h.elim
  | spd | sel | x | memWrite => exact h

theorem OnBus.mayAdd {e : Event} (h : OnBus e) (i : Instr) : mayAdd i e := by
  cases i with
  | hostRead => exact h.storesBelow _
  | hostWrite => exact h.loadsBelow _
  | _ => exact h

/-- Only READ may write, and only inside its region. -/
theorem mayAdd_memWrite {i : Instr} {off : Nat} {v : Byte} (h : mayAdd i (.memWrite off v)) :
    ∃ u a c, i = .hostRead u a c ∧ off < bufSize c := by
  cases i with
  | hostRead u a c => exact ⟨u, a, c, rfl, h⟩
  | _ => exact h.elim

/-- Only WRITE may read, and only inside its region. -/
theorem mayAdd_memRead {i : Instr} {off : Nat} {v : Byte} (h : mayAdd i (.memRead off v)) :
    ∃ u a c, i = .hostWrite u a c ∧ off < bufSize c := by
  cases i with
  | hostWrite u a c => exact ⟨u, a, c, rfl, h⟩
  | _ => exact h.elim

/-- From `s` to `t` only events with `P` are added, and the buffer is as before unless `P` allows a write. -/
def Adds (P : Event → Prop) (s t : State) : Prop :=
  (∃ evs, t.log = evs ++ s.log ∧ ∀ e ∈ evs, P e) ∧ ((∀ off v, ¬ P (.memWrite off v)) → t.buf = s.buf)

section Rules
variable {P Q : Event → Prop} {s t u : State}

theorem Adds.none (hlog : t.log = s.log) (hbuf : t.buf = s.buf) : Adds P s t :=
  ⟨⟨[], hlog, by simp⟩, fun _ => hbuf⟩

theorem Adds.one {e : Event} (hlog : t.log = e :: s.log) (hbuf : t.buf = s.buf) (he : P e) : Adds P s t :=
  ⟨⟨[e], hlog, by simpa using he⟩, fun _ => hbuf⟩

theorem Adds.trans (h₁ : Adds P s t) (h₂ : Adds P t u) : Adds P s u := by
  obtain ⟨⟨evs₁, hlog₁, hall₁⟩, hbuf₁⟩ := h₁
  obtain ⟨⟨evs₂, hlog₂, hall₂⟩, hbuf₂⟩ := h₂
  refine ⟨⟨evs₂ ++ evs₁, by rw [hlog₂, hlog₁, List.append_assoc], ?_⟩, fun h => (hbuf₂ h).trans (hbuf₁ h)⟩
  exact fun e he => (List.mem_append.mp he).elim (hall₂ e) (hall₁ e)

theorem Adds.mono (h : Adds P s t) (hPQ : ∀ e, P e → Q e) : Adds Q s t := by
  obtain ⟨⟨evs, hlog, hall⟩, hbuf⟩ := h
  exact ⟨⟨evs, hlog, fun e he => hPQ e (hall e he)⟩, fun hQ => hbuf fun off v hP => hQ off v (hPQ _ hP)⟩

/-- What follows a run without touching the log and the buffer adds nothing to it. -/
theorem Adds.silent (h : Adds P s t) (hlog : u.log = t.log) (hbuf : u.buf = t.buf) : Adds P s u := h.trans (.none hlog hbuf)

end Rules

/-! ### The procedures of the command engine (R141, R143, R150) -/

theorem adds_select (a : Bool) (s : State) : Adds OnBus s (select a s) := .one rfl rfl trivial
theorem adds_setSpeed (hz : Nat) (s : State) : Adds OnBus s (setSpeed hz s) := .one rfl rfl trivial
theorem adds_xchg (o : Byte) (s : State) : Adds OnBus s (xchg o s) := .one rfl rfl trivial
theorem adds_pollOnce (s : State) : Adds OnBus s (pollOnce s) := .one rfl rfl trivial
theorem adds_waitOnce (s : State) : Adds OnBus s (waitOnce s) := .one rfl rfl trivial
theorem adds_deselect (s : State) : Adds OnBus s (deselect s) := (adds_select false s).trans (adds_xchg idleByte _)

theorem adds_errorExit (e : ErrorKind) (unit : Byte) (s : State) : Adds OnBus s (errorExit e unit s) :=
  (adds_deselect s).silent rfl rfl

theorem adds_sendFrame (s : State) : Adds OnBus s (sendFrame s) :=
  (adds_xchg _ s).trans <| (adds_xchg _ _).trans <| (adds_xchg _ _).trans <| (adds_xchg _ _).trans <|
    (adds_xchg _ _).trans (adds_xchg _ _)

theorem adds_pollResponse (n : Nat) (s : State) : Adds OnBus s (pollResponse n s) := by
  induction n generalizing s with
  | zero => exact adds_deselect s
  | succ n ih =>
    rw [pollResponse]
    split
    · exact (adds_pollOnce s).trans (ih _)
    · exact adds_pollOnce s

theorem adds_command (index : BitVec 6) (arg : Word) (s : State) : Adds OnBus s (command index arg s) :=
  have hload : Adds OnBus s (loadDescriptor index arg s) := .none rfl rfl
  hload.trans <| (adds_deselect _).trans <| (adds_select true _).trans <| (adds_sendFrame _).trans (adds_pollResponse _ _)

theorem adds_readTrail (s : State) : Adds OnBus s (readTrail s) :=
  have h0 : Adds OnBus s (readTrail0 s) := .one rfl rfl trivial
  have h1 (u : State) : Adds OnBus u (readTrail1 u) := .one rfl rfl trivial
  have h2 (u : State) : Adds OnBus u (readTrail2 u) := .one rfl rfl trivial
  have h3 (u : State) : Adds OnBus u (readTrail3 u) := .one rfl rfl trivial
  h0.trans <| (h1 _).trans <| (h2 _).trans (h3 _)

/-! ### The wire commands and INITIALIZE (R173 to R183) -/

theorem adds_runCmd0 (s : State) : Adds OnBus s (runCmd0 s) := (adds_command idxGoIdle 0 s).silent rfl rfl
theorem adds_runCmd55 (s : State) : Adds OnBus s (runCmd55 s) := (adds_command idxApp 0 s).silent rfl rfl
theorem adds_runCmd1 (s : State) : Adds OnBus s (runCmd1 s) := (adds_command idxOpCond 0 s).silent rfl rfl

theorem adds_runAcmd41 (hcs : Bool) (s : State) : Adds OnBus s (runAcmd41 hcs s) := by
  rw [runAcmd41, afterAcmd41_spec]
  exact (adds_command idxSdOpCond (acmd41Arg hcs) s).silent rfl rfl

theorem adds_runCmd8 (s : State) : Adds OnBus s (runCmd8 s) := by
  have hcmd : Adds OnBus s (afterCmd8 (command idxIfCond argIfCond s)) := by
    rw [afterCmd8_spec]
    exact (adds_command idxIfCond argIfCond s).silent rfl rfl
  rw [runCmd8]
  split
  · rw [afterR7_spec]
    exact (hcmd.trans (adds_readTrail _)).silent rfl rfl
  · exact hcmd

theorem adds_runCmd58 (s : State) : Adds OnBus s (runCmd58 s) := by
  have hcmd : Adds OnBus s (afterCmd58 (command idxReadOcr 0 s)) := (adds_command idxReadOcr 0 s).silent rfl rfl
  rw [runCmd58]
  split
  · exact (hcmd.trans (adds_readTrail _)).silent rfl rfl
  · exact hcmd

theorem adds_powerUp (n : Nat) (s : State) : Adds OnBus s (powerUp n s) := by
  induction n generalizing s with
  | zero => exact .none rfl rfl
  | succ n ih => exact (adds_waitOnce s).trans (ih _)

theorem adds_busReset (s : State) : Adds OnBus s (busReset s) :=
  (((adds_setSpeed _ s).trans (adds_select false _)).silent rfl rfl).trans (adds_powerUp _ _)

theorem adds_initDone (s : State) : Adds OnBus s (initDone s) :=
  ((adds_deselect s).trans (adds_setSpeed _ _)).silent rfl rfl

theorem adds_legacyFallback (s : State) : Adds OnBus s (legacyFallback s) := by
  rw [legacyFallback]
  split
  · exact (adds_runCmd1 s).trans (adds_initDone _)
  · exact (adds_runCmd1 s).trans (adds_errorExit _ _ _)

theorem adds_afterLoop (s : State) : Adds OnBus s (afterLoop s) := by
  rw [afterLoop]
  split
  · exact (adds_runCmd58 s).trans (adds_initDone _)
  · exact adds_initDone s

theorem adds_acmdLoop (n : Nat) (s : State) : Adds OnBus s (acmdLoop n s) := by
  induction n generalizing s with
  | zero => exact adds_errorExit _ _ s
  | succ n ih =>
    have hiteration := (adds_runCmd55 s).trans (adds_runAcmd41 ((runCmd55 s).ctype == .v2) _)
    rw [acmdLoop]
    dsimp only
    split_ifs
    · exact (adds_runCmd55 s).trans (adds_legacyFallback _)
    · exact hiteration.trans (adds_afterLoop _)
    · exact hiteration.trans (ih _)

theorem adds_initializeCard (s : State) : Adds OnBus s (initializeCard s) := by
  have hstart : Adds OnBus s (initStart s) := .none rfl rfl
  have hgo := hstart.trans ((adds_busReset _).trans (adds_runCmd0 _))
  rw [initializeCard]
  split
  · exact hgo.trans ((adds_runCmd8 _).trans (adds_acmdLoop _ _))
  · exact hgo.trans (adds_errorExit _ _ _)

/-! ### The sector loop (R206, R214) -/

/-- With `n` sectors left of `count`, when a sector below `count` adds only events with `P`. -/
theorem adds_sectorLoop {P : Event → Prop} {run : State → State} {count : Nat} (hbus : ∀ e, OnBus e → P e)
    (hsidx : ∀ s, ¬ (run s).phase = .xFail → (run s).sidx = s.sidx + 1) (hrun : ∀ s, s.sidx < count → Adds P s (run s))
    (unit : Byte) (sector : Word) (n : Nat) {s : State} (hn : s.sidx + n = count) :
    Adds P s (sectorLoop run unit sector n s) := by
  induction n generalizing s with
  | zero => exact .none rfl rfl
  | succ n ih =>
    let cur : State := { s with sect := sectorIndex sector s.sidx }
    have hcur : Adds P s cur := .none rfl rfl
    have hsector := hcur.trans (hrun cur (show s.sidx < count by omega))
    rw [sectorLoop]
    split
    case isTrue => exact hsector.trans ((adds_errorExit _ _ _).mono hbus)
    case isFalse h => exact hsector.trans (ih (by rw [hsidx cur h]; exact (Nat.succ_add_eq_add_succ _ _).trans hn))

/-! ### READ (R202 to R206) -/

theorem adds_runCmd17 (arg : Word) (s : State) : Adds OnBus s (runCmd17 arg s) := by
  rw [runCmd17, afterCmd17]
  split <;> exact (adds_command idxReadBlock arg s).silent rfl rfl

theorem adds_tokenWait (n : Nat) (s : State) : Adds OnBus s (tokenWait n s) := by
  induction n generalizing s with
  | zero => exact .none rfl rfl
  | succ n ih =>
    rw [tokenWait]
    split_ifs
    · exact (adds_waitOnce s).silent rfl rfl
    · exact (adds_waitOnce s).trans (ih _)
    · exact (adds_waitOnce s).silent rfl rfl

theorem adds_awaitToken (s : State) : Adds OnBus s (awaitToken s) := adds_tokenWait _ s

theorem adds_closeRead (s : State) : Adds OnBus s (closeRead s) :=
  have hevents : Adds OnBus s (deselect (xchg idleByte (xchg idleByte s))) :=
    (adds_xchg _ s).trans <| (adds_xchg _ _).trans (adds_deselect _)
  hevents.silent rfl rfl

theorem adds_memWrite {size off : Nat} (h : off < size) (v : Byte) (s : State) :
    Adds (StoresBelow size) s (memWrite off v s) :=
  ⟨⟨[.memWrite off v], memWrite_log off v s, List.forall_mem_singleton.mpr h⟩, fun hno => absurd h (hno off v)⟩

/-- One byte of READ is stored at its own offset. -/
theorem adds_readByte {size : Nat} {s : State} (h : bufOffset s.sidx s.bcnt < size) :
    Adds (StoresBelow size) s (readByte s) :=
  have hxchg := (adds_xchg idleByte s).mono fun _ he => he.storesBelow size
  (hxchg.trans (adds_memWrite h (rx s) _)).silent rfl rfl

theorem adds_readPayload {count : Word} (n : Nat) {s : State} (hs : s.sidx < count.toNat) (hn : s.bcnt + n ≤ sectorBytes) :
    Adds (StoresBelow (bufSize count)) s (readPayload n s) := by
  induction n generalizing s with
  | zero => exact .none rfl rfl
  | succ n ih =>
    have hrest : (readByte s).bcnt + n ≤ sectorBytes := (Nat.succ_add_eq_add_succ s.bcnt n).trans_le hn
    exact (adds_readByte (bufOffset_lt_bufSize hs (by omega))).trans (ih hs hrest)

theorem adds_readSector {count : Word} {s : State} (hs : s.sidx < count.toNat) :
    Adds (StoresBelow (bufSize count)) s (readSector s) := by
  have hbus : ∀ e, OnBus e → StoresBelow (bufSize count) e := fun _ he => he.storesBelow _
  have hcmd := (adds_runCmd17 (blockArg s.cfg.addrMode s.sect) s).mono hbus
  have htoken := hcmd.trans ((adds_awaitToken _).mono hbus)
  rcases readSector_cases s with ⟨-, h⟩ | ⟨-, -, h⟩ | ⟨-, -, hb, h⟩ <;> rw [h]
  · exact hcmd
  · exact htoken
  · have hsidx : (awaitToken (runCmd17 (blockArg s.cfg.addrMode s.sect) s)).sidx < count.toNat := by
      rwa [awaitToken_sidx, runCmd17_sidx]
    have hpayload := adds_readPayload sectorBytes hsidx (by rw [hb, Nat.zero_add])
    exact htoken.trans (hpayload.trans ((adds_closeRead _).mono hbus))

theorem adds_readSectors (unit : Byte) (sector count : Word) (s : State) :
    Adds (StoresBelow (bufSize count)) s (readSectors unit sector count.toNat { s with sidx := 0 }) := by
  rw [readSectors_eq_sectorLoop]
  exact adds_sectorLoop (fun _ he => he.storesBelow _) (fun _ => readSector_sidx) (fun _ => adds_readSector) unit sector _
    (Nat.zero_add _)

/-! ### WRITE (R208 to R214) -/

theorem adds_runCmd24 (arg : Word) (s : State) : Adds OnBus s (runCmd24 arg s) := (adds_command idxWriteBlock arg s).silent rfl rfl

theorem adds_busyWait (n : Nat) (s : State) : Adds OnBus s (busyWait n s) := by
  induction n generalizing s with
  | zero => exact .none rfl rfl
  | succ n ih =>
    rw [busyWait]
    split
    · exact (adds_waitOnce s).silent rfl rfl
    · exact (adds_waitOnce s).trans (ih _)

theorem adds_awaitStored (s : State) : Adds OnBus s (awaitStored s) := adds_busyWait _ s

theorem adds_closeWrite (s : State) : Adds OnBus s (closeWrite s) :=
  have hevents : Adds OnBus s (deselect (xchg idleByte s)) := (adds_xchg _ s).trans (adds_deselect _)
  hevents.silent rfl rfl

theorem adds_noteMemRead {size off : Nat} (h : off < size) (s : State) : Adds (LoadsBelow size) s (noteMemRead off s) :=
  .one rfl rfl h

/-- One byte of WRITE is read from its own offset. -/
theorem adds_writeByte {size : Nat} {s : State} (h : bufOffset s.sidx s.bcnt < size) :
    Adds (LoadsBelow size) s (writeByte s) :=
  have hxchg := (adds_xchg (s.buf.read (bufOffset s.sidx s.bcnt)) _).mono fun _ he => he.loadsBelow size
  ((adds_noteMemRead h s).trans hxchg).silent rfl rfl

theorem adds_writePayload {count : Word} (n : Nat) {s : State} (hs : s.sidx < count.toNat) (hn : s.bcnt + n ≤ sectorBytes) :
    Adds (LoadsBelow (bufSize count)) s (writePayload n s) := by
  induction n generalizing s with
  | zero => exact .none rfl rfl
  | succ n ih =>
    have hrest : (writeByte s).bcnt + n ≤ sectorBytes := (Nat.succ_add_eq_add_succ s.bcnt n).trans_le hn
    exact (adds_writeByte (bufOffset_lt_bufSize hs (by omega))).trans (ih hs hrest)

theorem adds_sendBlock {count : Word} {s : State} (hs : s.sidx < count.toNat) :
    Adds (LoadsBelow (bufSize count)) s (sendBlock s) := by
  have hbus : ∀ e, OnBus e → LoadsBelow (bufSize count) e := fun _ he => he.loadsBelow _
  have htoken : Adds OnBus s { xchg tokenStart s with bcnt := 0 } := (adds_xchg tokenStart s).silent rfl rfl
  have hpayload := (htoken.mono hbus).trans (adds_writePayload sectorBytes hs (Nat.zero_add _).le)
  exact hpayload.trans (((adds_xchg _ _).trans (adds_xchg _ _)).mono hbus)

theorem adds_afterDataResponse (d : Byte) (s : State) : Adds OnBus s (afterDataResponse d s) := by
  rw [afterDataResponse]
  split <;> exact .none rfl rfl

theorem adds_answerBlock {count : Word} {s : State} (hs : s.sidx < count.toNat) :
    Adds (LoadsBelow (bufSize count)) s (answerBlock s) :=
  have hanswer := (adds_xchg idleByte (sendBlock s)).trans (adds_afterDataResponse (rx (sendBlock s)) _)
  (adds_sendBlock hs).trans (hanswer.mono fun _ he => he.loadsBelow _)

theorem adds_writeSector {count : Word} {s : State} (hs : s.sidx < count.toNat) :
    Adds (LoadsBelow (bufSize count)) s (writeSector s) := by
  have hbus : ∀ e, OnBus e → LoadsBelow (bufSize count) e := fun _ he => he.loadsBelow _
  have hcmd := (adds_runCmd24 (blockArg s.cfg.addrMode s.sect) s).mono hbus
  have hanswer := hcmd.trans (adds_answerBlock (by rwa [runCmd24_sidx]))
  have hstored := hanswer.trans ((adds_awaitStored _).mono hbus)
  rcases writeSector_cases s with ⟨-, h⟩ | ⟨-, -, h⟩ | ⟨-, -, ⟨-, h⟩ | ⟨-, h⟩⟩ <;> rw [h]
  · exact hcmd
  · exact hanswer
  · exact hstored
  · exact hstored.trans ((adds_closeWrite _).mono hbus)

theorem adds_writeSectors (unit : Byte) (sector count : Word) (s : State) :
    Adds (LoadsBelow (bufSize count)) s (writeSectors unit sector count.toNat { s with sidx := 0 }) := by
  rw [writeSectors_eq_sectorLoop]
  exact adds_sectorLoop (fun _ he => he.loadsBelow _) (fun _ => writeSector_sidx) (fun _ => adds_writeSector) unit sector _
    (Nat.zero_add _)

/-! ### Instructions -/

theorem adds_answerQuery (answer : Word) (unit : Byte) (s : State) : Adds OnBus s (answerQuery answer unit s) := by
  rw [answerQuery]
  split_ifs <;> exact .none rfl rfl

/-- Every instruction keeps to its row of the table, and leaves the buffer alone where its row allows no write. -/
theorem exec_adds {i : Instr} {s t : State} (ht : exec i s = .next t) : Adds (mayAdd i) s t := by
  cases i with
  | cmd0 => cases ht; exact adds_runCmd0 s
  | cmd8 => cases ht; exact adds_runCmd8 s
  | cmd55 => cases ht; exact adds_runCmd55 s
  | acmd41 hcs => cases ht; exact adds_runAcmd41 hcs s
  | cmd1 => cases ht; exact adds_runCmd1 s
  | cmd58 => cases ht; exact adds_runCmd58 s
  | cmd17 arg => cases ht; exact adds_runCmd17 arg s
  | cmd24 arg => cases ht; exact adds_runCmd24 arg s
  | hostInitialize unit =>
    cases ht
    split
    · exact adds_initializeCard s
    · exact .none rfl rfl
  | hostStatus unit => cases ht; exact .none rfl rfl
  | hostRead unit sector count =>
    cases hcheck : transferCheck unit count s with
    | some e => cases (execHostRead_rejected hcheck).symm.trans ht; exact .none rfl rfl
    | none => cases (execHostRead_accepted hcheck).symm.trans ht; exact adds_readSectors unit sector count s
  | hostWrite unit sector count =>
    cases hcheck : transferCheck unit count s with
    | some e => cases (execHostWrite_rejected hcheck).symm.trans ht; exact .none rfl rfl
    | none => cases (execHostWrite_accepted hcheck).symm.trans ht; exact adds_writeSectors unit sector count s
  | ioctlCtrlSync unit | ioctlGetSectorSize unit | ioctlGetBlockSize unit => cases ht; exact adds_answerQuery _ unit s

/-! ### The obligations -/

/-- Settles O23: `s * 512` in 32 bits drops the top nine bits of `s`. -/
theorem blockArgumentByMode : Obligations.BlockArgumentByMode :=
  fun s => ⟨rfl, blockArg_byte_toNat s, blockArg_byte_eq_append s⟩

/-- Settles O57: `exec_adds`, read off the table for the two kinds of access. -/
theorem bufferPortDiscipline : Obligations.BufferPortDiscipline := by
  intro i s t ht
  obtain ⟨⟨evs, hlog, hall⟩, hbuf⟩ := exec_adds ht
  have hwrite (hread : ∀ u a c, i ≠ .hostRead u a c) (off : Nat) (v : Byte) : ¬ mayAdd i (.memWrite off v) := fun h => by
    obtain ⟨u, a, c, hi, -⟩ := mayAdd_memWrite h
    exact hread u a c hi
  refine ⟨evs, hlog, fun hread => ⟨fun off v he => hwrite hread off v (hall _ he), hbuf (hwrite hread)⟩, ?_, ?_⟩
  · intro hno off v he
    obtain ⟨u, a, c, hi, -⟩ := mayAdd_memRead (hall _ he)
    exact hno u a c hi
  · rintro off v (he | he)
    · obtain ⟨u, a, c, hi, hoff⟩ := mayAdd_memWrite (hall _ he)
      exact ⟨u, a, c, .inl hi, hoff⟩
    · obtain ⟨u, a, c, hi, hoff⟩ := mayAdd_memRead (hall _ he)
      exact ⟨u, a, c, .inr hi, hoff⟩

end Sys2Proof.Machine

/-! PROOFS. The encodings (30_encoding.md): the fields in the bytes of a frame and of a request, the decoder on what the encoder
writes, the rows of opcode_table.json, and the steps that decode. -/

namespace Sys2Proof

open Machine

/-! ### Bytes and fields (R67, R91, R92) -/

@[simp] theorem commandByte_startBits (index : BitVec 6) : (commandByte index).extractLsb' 6 2 = 0b01#2 := by
  revert index
  decide

@[simp] theorem commandByte_index (index : BitVec 6) : (commandByte index).extractLsb' 0 6 = index := by
  revert index
  decide

/-- A byte that begins with `01` is the first byte of a frame. -/
theorem commandByte_of_startBits {b : Byte} (h : b.extractLsb' 6 2 = 0b01#2) : commandByte (b.extractLsb' 0 6) = b := by
  revert b
  decide

/-- Four neighbouring bytes of a word are its 32 bits from the lowest of them. -/
theorem wordOfBytes_extractLsb' {n : Nat} (w : BitVec n) (k : Nat) :
    wordOfBytes (w.extractLsb' (k + 24) 8) (w.extractLsb' (k + 16) 8) (w.extractLsb' (k + 8) 8) (w.extractLsb' k 8) =
      w.extractLsb' k 32 := by
  rw [wordOfBytes, BitVec.extractLsb'_append_extractLsb'_eq_extractLsb' (by rfl),
    BitVec.extractLsb'_append_extractLsb'_eq_extractLsb' (by rfl), BitVec.extractLsb'_append_extractLsb'_eq_extractLsb' (by rfl)]

/-- A 32-bit value is read back from its bytes (R67). -/
@[simp] theorem wordOfBytes_wordBytes (v : Word) :
    wordOfBytes (wordByte3 v) (wordByte2 v) (wordByte1 v) (wordByte0 v) = v :=
  (wordOfBytes_extractLsb' v 0).trans BitVec.extractLsb'_eq_self

/-! ### Decoding what the encoder writes -/

theorem decode_frame_bytes (f : Frame) : decode f.bytes = decodeFrame f := by
  simp only [Frame.bytes, decode, commandByte_startBits, commandByte_index, wordOfBytes_wordBytes, if_true]

theorem decode_request_bytes (r : Request) : decode r.bytes = decodeRequest r := by
  have hfirst : ∀ op : BitVec 3, (op.zeroExtend 8).extractLsb' 3 5 = 0#5 ∧ (op.zeroExtend 8).extractLsb' 0 3 = op := by decide
  obtain ⟨hpad, hop⟩ := hfirst r.op
  simp only [Request.bytes, decode, hpad, hop, wordOfBytes_wordBytes, if_true]

/-- The frame an instruction is written as decodes to it (R94, R108, R110). -/
theorem decodeFrame_of_encoded {i : Instr} {f : Frame} (h : i.encoded = .frame f) : decodeFrame f = .ok i := by
  cases i <;> cases h
  case acmd41 hcs => cases hcs <;> rfl
  all_goals rfl

/-- The request an instruction is written as decodes to it (R102, R104, R107). -/
theorem decodeRequest_of_encoded {i : Instr} {r : Request} (h : i.encoded = .request r) : decodeRequest r = .ok i := by
  cases i <;> cases h <;> rfl

theorem decode_encode (i : Instr) : decode (encode i) = .ok i := by
  unfold encode
  cases h : i.encoded with
  | frame f => exact (decode_frame_bytes f).trans (decodeFrame_of_encoded h)
  | request r => exact (decode_request_bytes r).trans (decodeRequest_of_encoded h)

/-! ### Legal frames (R94, R108, R110) -/

/-- The per-instruction family, for every instruction. -/
theorem encodedWf : ∀ i : Instr, Laws.EncodedWf.Statement i
  | .cmd0 => Laws.EncodedWf.cmd0
  | .cmd8 => Laws.EncodedWf.cmd8
  | .cmd55 => Laws.EncodedWf.cmd55
  | .acmd41 hcs => Laws.EncodedWf.acmd41 hcs
  | .cmd1 => Laws.EncodedWf.cmd1
  | .cmd58 => Laws.EncodedWf.cmd58
  | .cmd17 arg => Laws.EncodedWf.cmd17 arg
  | .cmd24 arg => Laws.EncodedWf.cmd24 arg
  | .hostInitialize unit => Laws.EncodedWf.hostInitialize unit
  | .hostStatus unit => Laws.EncodedWf.hostStatus unit
  | .hostRead unit sector count => Laws.EncodedWf.hostRead unit sector count
  | .hostWrite unit sector count => Laws.EncodedWf.hostWrite unit sector count
  | .ioctlCtrlSync unit => Laws.EncodedWf.ioctlCtrlSync unit
  | .ioctlGetSectorSize unit => Laws.EncodedWf.ioctlGetSectorSize unit
  | .ioctlGetBlockSize unit => Laws.EncodedWf.ioctlGetBlockSize unit

theorem wf_of_encoded {i : Instr} {f : Frame} (h : i.encoded = .frame f) : f.wf = true := by
  rcases encodedWf i with ⟨g, hg, hwf, -⟩ | ⟨r, hr, -, -⟩
  · cases hg.symm.trans h
    exact hwf
  · cases hr.symm.trans h

/-- A frame decodes to the instruction that is written as it, and to no other. -/
theorem decodeFrame_eq_ok_iff {f : Frame} {i : Instr} : decodeFrame f = .ok i ↔ i.encoded = .frame f := by
  refine ⟨fun h => ?_, decodeFrame_of_encoded⟩
  obtain ⟨hcommand, hcrc⟩ := decodeFrame_ok h
  rw [encoded_of_decodeCommand hcommand, commandFrame, ← hcrc]

/-! ### Words of opcode_table.json -/

theorem toOption_eq_some_iff {ε α : Type} {x : Except ε α} {a : α} : x.toOption = some a ↔ x = .ok a := by
  cases x <;> simp [Except.toOption]

/-- A word of its format's width is decoded by its bytes. -/
theorem decodeTableWord_toNat {n : Nat} (w : BitVec n) :
    decodeTableWord n w.toNat = (decode (bytesOfNat (formatBytes n) w.toNat)).toOption := by
  rw [decodeTableWord, if_pos w.isLt]
  cases decode (bytesOfNat (formatBytes n) w.toNat) <;> rfl

/-! ### The rows with format FRAME (R91, R110) -/

/-- The 48-bit word `F[47:0]` of a frame (R91). -/
def Frame.word (f : Frame) : BitVec 48 := commandByte f.index ++ f.arg ++ f.crc

/-- A 48-bit word is its first byte, its argument and its CRC byte. -/
theorem append_fields (w : BitVec 48) : w.extractLsb' 40 8 ++ w.extractLsb' 8 32 ++ w.extractLsb' 0 8 = w := by
  rw [BitVec.extractLsb'_append_extractLsb'_eq_extractLsb' (by rfl), BitVec.extractLsb'_append_extractLsb'_eq_extractLsb' (by rfl)]
  exact BitVec.extractLsb'_eq_self

/-- Words put together from parts of the same widths are equal part by part. -/
theorem append_eq_append_iff {m n : Nat} {a a' : BitVec m} {b b' : BitVec n} : a ++ b = a' ++ b' ↔ a = a' ∧ b = b' := by
  refine ⟨fun h => ⟨?_, ?_⟩, fun ⟨ha, hb⟩ => ha ▸ hb ▸ rfl⟩
  · rw [← BitVec.extractLsb'_append_eq_left (a := a) (b := b), h, BitVec.extractLsb'_append_eq_left]
  · rw [← BitVec.extractLsb'_append_eq_right (a := a) (b := b), h, BitVec.extractLsb'_append_eq_right]

theorem Frame.word_fields (f : Frame) :
    (f.word.extractLsb' 40 8 = commandByte f.index ∧ f.word.extractLsb' 8 32 = f.arg) ∧ f.word.extractLsb' 0 8 = f.crc := by
  have h := append_fields f.word
  rwa [Frame.word, append_eq_append_iff, append_eq_append_iff] at h

@[simp] theorem Frame.word_arg (f : Frame) : f.word.extractLsb' 8 32 = f.arg :=
  f.word_fields.1.2

/-- The six bytes of a word: its start bits are tested, the rest is decoded as a frame. -/
theorem decode_bytesOfNat_six (w : BitVec 48) : decode (bytesOfNat 6 w.toNat) =
    if (w.extractLsb' 40 8).extractLsb' 6 2 = 0b01#2 then
      decodeFrame ⟨(w.extractLsb' 40 8).extractLsb' 0 6, w.extractLsb' 8 32, w.extractLsb' 0 8⟩
    else .error .startBits := by
  rw [← wordOfBytes_extractLsb' w 8]
  rfl

/-- A 48-bit word decodes to the instruction whose frame it holds, and to no other. -/
theorem decodeTableWord_eq_some_iff {w : BitVec 48} {i : Instr} :
    decodeTableWord 48 w.toNat = some i ↔ ∃ f, i.encoded = .frame f ∧ w = f.word := by
  rw [decodeTableWord_toNat, toOption_eq_some_iff, show formatBytes 48 = 6 from rfl, decode_bytesOfNat_six]
  constructor
  · intro h
    split_ifs at h with hstart
    refine ⟨_, decodeFrame_eq_ok_iff.mp h, ?_⟩
    rw [Frame.word, commandByte_of_startBits hstart, append_fields]
  · rintro ⟨f, hf, rfl⟩
    obtain ⟨⟨hcommand, harg⟩, hcrc⟩ := f.word_fields
    rw [hcommand, harg, hcrc, commandByte_index, if_pos (commandByte_startBits f.index), decodeFrame_of_encoded hf]

/-- A mask of the argument keeps the first byte and the CRC byte. -/
theorem fields_and_mask (b : Byte) (arg : Word) (crc : Byte) (m : Word) :
    (b ++ arg ++ crc) &&& (0xFF#8 ++ m ++ 0xFF#8) = b ++ (arg &&& m) ++ crc := by
  rw [BitVec.and_append, BitVec.and_append, show b &&& 0xFF#8 = b from BitVec.and_allOnes,
    show crc &&& 0xFF#8 = crc from BitVec.and_allOnes]

/-- A word matches a row whose mask leaves bits of the argument free exactly when it is the word of a frame with the row's index
and CRC byte and, under `m`, the row's argument. -/
theorem and_mask_eq_word_iff (w : BitVec 48) (m r : Word) (index : BitVec 6) (crc : Byte) :
    w &&& (0xFF#8 ++ m ++ 0xFF#8 : BitVec 48) = Frame.word ⟨index, r, crc⟩ ↔
      ∃ arg, arg &&& m = r ∧ w = Frame.word ⟨index, arg, crc⟩ := by
  constructor
  · intro h
    rw [← append_fields w] at h
    obtain ⟨hfirst, hcrc⟩ := append_eq_append_iff.mp ((fields_and_mask _ _ _ m).symm.trans h)
    obtain ⟨hcommand, harg⟩ := append_eq_append_iff.mp hfirst
    exact ⟨w.extractLsb' 8 32, harg, by rw [Frame.word, ← hcommand, ← hcrc, append_fields]⟩
  · rintro ⟨arg, rfl, rfl⟩
    exact fields_and_mask _ arg crc m

/-- The rows of CMD17 and CMD24 leave the whole argument free. -/
theorem blockRow_iff (w : BitVec 48) (index : BitVec 6) :
    w &&& 0xFF00000000FF#48 = Frame.word (commandFrame index 0) ↔ ∃ arg, w = Frame.word (commandFrame index arg) := by
  simpa [commandFrame] using and_mask_eq_word_iff w 0 0 index (crcFor index)

/-- An argument with no bit set but bit 30 is one of the two of ACMD41 (R108). -/
theorem eq_acmd41Arg {v : Word} (h : v &&& 0xBFFFFFFF#32 = 0) : v = acmd41Arg (v.getLsbD 30) := by
  calc v
    _ = v &&& (0xBFFFFFFF#32 ||| BitVec.twoPow 32 30) := BitVec.and_allOnes.symm
    _ = (v &&& 0xBFFFFFFF#32) ||| (v &&& BitVec.twoPow 32 30) := BitVec.and_or_distrib_left
    _ = v &&& BitVec.twoPow 32 30 := by rw [h]; exact BitVec.zero_or
    _ = acmd41Arg (v.getLsbD 30) := BitVec.and_twoPow v 30

/-- The row of ACMD41 leaves bit 30 of the argument free. -/
theorem acmd41Row_iff (w : BitVec 48) : w &&& 0xFFBFFFFFFFFF#48 = Frame.word (commandFrame idxSdOpCond 0) ↔
    ∃ hcs, w = Frame.word (commandFrame idxSdOpCond (acmd41Arg hcs)) := by
  refine (and_mask_eq_word_iff w 0xBFFFFFFF 0 idxSdOpCond crcDummy).trans ⟨?_, ?_⟩
  · rintro ⟨arg, harg, rfl⟩
    exact ⟨_, congrArg (fun a => Frame.word ⟨idxSdOpCond, a, crcDummy⟩) (eq_acmd41Arg harg)⟩
  · rintro ⟨hcs, rfl⟩
    exact ⟨_, by cases hcs <;> rfl, rfl⟩

/-! ### The rows with format HOSTREQ (R102) -/

theorem Request.ofNat_toNat (w : BitVec 83) : Request.ofNat w.toNat =
    ⟨w.extractLsb' 80 3, w.extractLsb' 72 8, w.extractLsb' 64 8, w.extractLsb' 32 32, w.extractLsb' 0 32⟩ := by
  rw [Request.ofNat, BitVec.ofNat_toNat, BitVec.setWidth_eq]

/-- The first of a request's eleven bytes is OP under five zero bits (log 14). -/
theorem firstByte_request (w : BitVec 83) : w.extractLsb' 80 8 = 0#5 ++ w.extractLsb' 80 3 := by
  have hpad : w.extractLsb' 83 5 = 0#5 := congrArg (BitVec.ofNat 5) (Nat.shiftRight_eq_zero _ _ w.isLt)
  rw [← hpad, BitVec.extractLsb'_append_extractLsb'_eq_extractLsb' (by rfl)]

/-- The eleven bytes of a word are decoded as the request it holds. -/
theorem decode_bytesOfNat_eleven (w : BitVec 83) : decode (bytesOfNat 11 w.toNat) = decodeRequest (Request.ofNat w.toNat) := by
  have hpad : (w.extractLsb' 80 8).extractLsb' 3 5 = 0#5 := by
    rw [firstByte_request]
    exact BitVec.extractLsb'_append_eq_left
  have hop : (w.extractLsb' 80 8).extractLsb' 0 3 = w.extractLsb' 80 3 := by
    rw [firstByte_request]
    exact BitVec.extractLsb'_append_eq_right
  rw [Request.ofNat_toNat, ← wordOfBytes_extractLsb' w 32, ← wordOfBytes_extractLsb' w 0, ← hop]
  exact if_pos hpad

/-! ### Steps that decode -/

/-- At C_DESEL a step runs what the Command Descriptor decodes to (R28, R91). -/
theorem step_of_frame {s : State} {i : Instr} (hp : s.phase = .cDesel) (hd : decodeFrame (descriptor s) = .ok i) :
    step s = exec i s := by
  simp only [step, hp, hd]

/-- OP 5, 6 and 7 select no operation (R111). -/
theorem decodeRequest_reservedOp {r : Request} (h : r.op = 5 ∨ r.op = 6 ∨ r.op = 7) : decodeRequest r = .error .op := by
  unfold decodeRequest
  rcases h with h | h | h <;> rw [h] <;> rfl

/-! ### The obligations -/

/-- Settles O18: the bytes of a frame or a request are decoded field by field, and each instruction's fields decode to it. -/
theorem decodeInvertsEncode : Obligations.DecodeInvertsEncode := decode_encode

/-- Settles O19: what decodes is what the encoder writes, and the encoder writes legal frames only. -/
theorem decodedFrameIsLegal : Obligations.DecodedFrameIsLegal := by
  intro f i
  rw [decodeFrame_eq_ok_iff]
  exact ⟨fun h => ⟨wf_of_encoded h, h⟩, And.right⟩

/-- Settles O21: in each branch the word is the frame of the row's instruction, and in the last no instruction's frame is left. -/
theorem frameRowsDecodeByMask : Obligations.FrameRowsDecodeByMask := by
  intro w
  have hrow {i : Instr} {f : Frame} (hf : i.encoded = .frame f) : decodeTableWord 48 f.word.toNat = some i :=
    decodeTableWord_eq_some_iff.mpr ⟨f, hf, rfl⟩
  split_ifs with h0 h8 h55 h41 h1 h58 h17 h24
  · exact h0 ▸ hrow (i := .cmd0) rfl
  · exact h8 ▸ hrow (i := .cmd8) rfl
  · exact h55 ▸ hrow (i := .cmd55) rfl
  · obtain ⟨hcs, rfl⟩ := (acmd41Row_iff w).mp h41
    rw [hrow (i := .acmd41 hcs) rfl]
    cases hcs <;> rfl
  · exact h1 ▸ hrow (i := .cmd1) rfl
  · exact h58 ▸ hrow (i := .cmd58) rfl
  · obtain ⟨arg, rfl⟩ := (blockRow_iff w idxReadBlock).mp h17
    rw [Frame.word_arg]
    exact hrow (i := .cmd17 arg) rfl
  · obtain ⟨arg, rfl⟩ := (blockRow_iff w idxWriteBlock).mp h24
    rw [Frame.word_arg]
    exact hrow (i := .cmd24 arg) rfl
  case neg =>
    refine Option.eq_none_iff_forall_ne_some.mpr fun i hi => ?_
    obtain ⟨f, hf, rfl⟩ := decodeTableWord_eq_some_iff.mp hi
    cases i <;> cases hf
    case cmd0 => exact h0 rfl
    case cmd8 => exact h8 rfl
    case cmd55 => exact h55 rfl
    case acmd41 hcs => exact h41 ((acmd41Row_iff _).mpr ⟨hcs, rfl⟩)
    case cmd1 => exact h1 rfl
    case cmd58 => exact h58 rfl
    case cmd17 arg => exact h17 ((blockRow_iff _ idxReadBlock).mpr ⟨arg, rfl⟩)
    case cmd24 arg => exact h24 ((blockRow_iff _ idxWriteBlock).mpr ⟨arg, rfl⟩)

/-- Settles O22: both sides test OP in the table's order; IOCTL alone looks at QUERY, so the two nestings of its tests are
compared with OP 4 and without. -/
theorem requestRowsDecodeByMask : Obligations.RequestRowsDecodeByMask := by
  intro w
  rw [decodeTableWord_toNat, show formatBytes 83 = 11 from rfl, decode_bytesOfNat_eleven, Request.ofNat_toNat, decodeRequest]
  simp only [apply_ite Except.toOption]
  by_cases hop : w.extractLsb' 80 3 = 4#3
  · simp only [hop, true_and]
    rfl
  · simp only [hop, show opIoctl = 4#3 from rfl, false_and, if_false]
    rfl

/-- Settles O4: `step_of_frame`, with the descriptor written out. -/
theorem stepRunsDecodedFrame : Obligations.StepRunsDecodedFrame :=
  fun _ _ => step_of_frame

/-- Settles O9: the request does not decode, and `rejectRequest` writes the response registers only. -/
theorem reservedOpIsParameterError : Obligations.ReservedOpIsParameterError :=
  fun _ _ _ hp hh hop => step_of_illegal_request hp hh (decodeRequest_reservedOp hop)

/-- Settles O20: the frames are the bytes the encoder writes for their instructions; the two request words are evaluated. -/
theorem specWordsDecode : Obligations.SpecWordsDecode :=
  ⟨decode_encode .cmd0, decode_encode .cmd8, decode_encode (.acmd41 true), decode_encode (.cmd17 0x00012345),
    by decide, by decide⟩

end Sys2Proof

/-! PROOFS. The Command Protocol Engine (40_command_engine.md): `SendCommand` on what a card answers, which answers there are, its
exchanges, and what the eight wire commands leave unchanged. -/

namespace Sys2Proof.Machine

/-! ### Replies (R145 to R147) -/

theorem Reply.good_answered_iff {bound : Nat} {ign fil : List Byte} {r : Byte} :
    (Reply.answered ign fil r).good bound = true ↔
      ign.length = 7 ∧ fil.all isFiller = true ∧ fil.length < bound ∧ isFiller r = false := by
  simp [Reply.good, and_assoc]

theorem Reply.good_silent_iff {bound : Nat} {ign fil : List Byte} {last : Byte} :
    (Reply.silent ign fil last).good bound = true ↔ ign.length = 7 ∧ fil.all isFiller = true ∧ fil.length = bound := by
  simp [Reply.good, and_assoc]

/-- As an unsigned byte a filler is above both response codes (R95, R146). -/
theorem above_codes_of_isFiller {b : Byte} (h : isFiller b = true) : b ≠ 0x00 ∧ b ≠ 0x01 ∧ 0x01 < b := by
  revert b
  decide

/-- The first `bound` polled bytes hold a response, the first byte that is no filler, or they are all fillers (R145). -/
theorem exists_reply {bound : Nat} {ign polled : List Byte} (hign : ign.length = 7) (hlen : bound < polled.length) :
    ∃ reply rest, Reply.good bound reply = true ∧ ign ++ polled = reply.bytes ++ rest := by
  have hwindow : (polled.take bound).length = bound := List.length_take_of_le hlen.le
  cases hfind : (polled.take bound).find? (!isFiller ·) with
  | some r =>
    obtain ⟨hr, fil, more, hsplit, hfil⟩ := List.find?_eq_some_iff_append.mp hfind
    refine ⟨.answered ign fil r, more ++ polled.drop bound, Reply.good_answered_iff.mpr ⟨hign, ?_, ?_, by simpa using hr⟩, ?_⟩
    · simpa using hfil
    · have := congrArg List.length hsplit
      simp only [hwindow, List.length_append, List.length_cons] at this
      omega
    · calc ign ++ polled = ign ++ (polled.take bound ++ polled.drop bound) := by rw [List.take_append_drop]
        _ = (Reply.answered ign fil r).bytes ++ (more ++ polled.drop bound) := by rw [hsplit]; simp [Reply.bytes]
  | none =>
    have hfil : (polled.take bound).all isFiller = true := by simpa using hfind
    refine ⟨.silent ign (polled.take bound) polled[bound], polled.drop (bound + 1),
      Reply.good_silent_iff.mpr ⟨hign, hfil, hwindow⟩, ?_⟩
    simp [Reply.bytes]

/-! ### SendCommand (R143) -/

/-- The frame bytes go out in bus order, whatever six bytes come back (R91). -/
theorem sendFrame_heard {ins rest : List Byte} {s : State} (hlen : ins.length = 6) (h : s.card = ins ++ rest) :
    sendFrame s = { s with card := rest, xcount := s.xcount + 6,
                           log := (List.zipWith Event.x (descriptor s).bytes ins).reverse ++ s.log } := by
  match ins, hlen with
  | [b0, b1, b2, b3, b4, b5], _ => apply State.ext <;> simp [sendFrame, rx, h, descriptor, Frame.bytes]

/-- `SendCommand` up to its first poll: the descriptor is loaded, the line is low, seven bytes have been ignored. -/
theorem sendCommand_entry_heard {ign rest : List Byte} {s : State} (index : BitVec 6) (arg : Word) (hlen : ign.length = 7)
    (h : s.card = ign ++ rest) :
    sendFrame (select true (deselect (loadDescriptor index arg s))) =
      { s with idx := index, arg := arg, crc := crcFor index, resp := 0xFF, pcnt := 0, cs := 0, card := rest,
               xcount := s.xcount + 7,
               log := ([Event.sel 1] ++ listen (ign.take 1) ++ [Event.sel 0] ++
                 List.zipWith Event.x (commandFrame index arg).bytes (ign.drop 1)).reverse ++ s.log } := by
  obtain ⟨resync, ins, rfl⟩ := List.exists_cons_of_length_eq_add_one hlen
  have hcard : (select true (deselect (loadDescriptor index arg s))).card = ins ++ rest := by simp [deselect, h]
  rw [sendFrame_heard (by simpa using hlen) hcard]
  apply State.ext <;> simp [deselect, rx, h, listen, descriptor, commandFrame]

/-- `SendCommand` on a reply that fits its bound. -/
theorem sendCommand_heard {index : BitVec 6} {arg : Word} {bound : Nat} {reply : Reply} {rest : List Byte} {s : State}
    (hg : reply.good bound = true) (h : s.card = reply.bytes ++ rest) :
    sendCommand index arg bound s = afterReply index arg reply rest s := by
  cases reply with
  | answered ign fil r =>
    obtain ⟨hign, hfil, hlt, hr⟩ := Reply.good_answered_iff.mp hg
    have hcard : s.card = ign ++ (fil ++ r :: rest) := by simpa [Reply.bytes] using h
    rw [sendCommand, sendCommand_entry_heard index arg hign hcard, pollResponse_answered fil r rest bound _ hfil hlt hr rfl]
    apply State.ext <;> simp [afterReply, Reply.trace, Reply.returned, Reply.polls, Reply.line, Reply.bytes, Reply.ignored,
      Reply.ending, hign]
    omega
  | silent ign fil last =>
    obtain ⟨hign, hfil, rfl⟩ := Reply.good_silent_iff.mp hg
    have hcard : s.card = ign ++ (fil ++ last :: rest) := by simpa [Reply.bytes] using h
    rw [sendCommand, sendCommand_entry_heard index arg hign hcard, pollResponse_silent fil last rest _ hfil rfl]
    apply State.ext <;> simp [afterReply, Reply.trace, Reply.returned, Reply.polls, Reply.line, Reply.bytes, Reply.ignored,
      Reply.ending, hign]
    omega

/-- Seven exchanges before the first poll, then those of `pollResponse` (R151). -/
theorem sendCommand_xcount (index : BitVec 6) (arg : Word) (bound : Nat) (s : State) :
    s.xcount + 8 ≤ (sendCommand index arg bound s).xcount ∧ (sendCommand index arg bound s).xcount ≤ s.xcount + 8 + bound := by
  have hentry : (sendFrame (select true (deselect (loadDescriptor index arg s)))).xcount = s.xcount + 7 := by
    rw [sendFrame_spec]; rfl
  obtain ⟨hmin, hmax⟩ := pollResponse_xcount bound (sendFrame (select true (deselect (loadDescriptor index arg s))))
  rw [hentry] at hmin hmax
  exact ⟨hmin, by rw [sendCommand]; omega⟩

/-! ### What the wire commands leave unchanged -/

/-- The state with everything the wire command `i` may write blanked: what a `SendCommand` and PHASE's next label write, and beside
it the registers its own rule names (R175, R176, R178, R180). -/
def wireKept (i : Instr) (s : State) : State :=
  { s with phase := .idle, cs := 0, idx := 0, arg := 0, crc := 0, resp := 0, pcnt := 0, card := [], xcount := 0, log := [],
           ctype := if i = .cmd8 then .unknown else s.ctype,
           ccs := if i = .cmd58 then 0 else s.ccs,
           trail0 := if i = .cmd8 ∨ i = .cmd58 then 0 else s.trail0,
           trail1 := if i = .cmd8 ∨ i = .cmd58 then 0 else s.trail1,
           trail2 := if i = .cmd8 ∨ i = .cmd58 then 0 else s.trail2,
           trail3 := if i = .cmd8 ∨ i = .cmd58 then 0 else s.trail3,
           icnt := if i = .cmd8 ∨ i = .acmd41 false ∨ i = .acmd41 true then 0 else s.icnt }

theorem wireKept_command (i : Instr) (index : BitVec 6) (arg : Word) (s : State) :
    wireKept i (command index arg s) = wireKept i s := by
  rw [command, sendCommand_frame]; rfl

theorem wireKept_readTrail {i : Instr} (hi : i = .cmd8 ∨ i = .cmd58) (s : State) :
    wireKept i (readTrail s) = wireKept i s := by
  rw [readTrail_spec]; simp only [wireKept, if_pos hi]

theorem wireKept_afterAcmd41 (hcs : Bool) (s : State) :
    wireKept (.acmd41 hcs) (afterAcmd41 s) = wireKept (.acmd41 hcs) s := by
  rw [afterAcmd41_spec]; cases hcs <;> rfl

theorem wireKept_afterCmd17 (i : Instr) (s : State) : wireKept i (afterCmd17 s) = wireKept i s := by
  rw [afterCmd17]; split <;> rfl

theorem wireKept_runCmd8 (s : State) : wireKept .cmd8 (runCmd8 s) = wireKept .cmd8 s := by
  have hcmd : wireKept .cmd8 (afterCmd8 (command idxIfCond argIfCond s)) = wireKept .cmd8 s := by
    rw [afterCmd8_spec]; exact wireKept_command .cmd8 _ _ s
  rw [runCmd8]
  split
  · rw [afterR7_spec]
    exact (wireKept_readTrail (.inl rfl) _).trans hcmd
  · exact hcmd

theorem wireKept_runCmd58 (s : State) : wireKept .cmd58 (runCmd58 s) = wireKept .cmd58 s := by
  have hcmd : wireKept .cmd58 (afterCmd58 (command idxReadOcr 0 s)) = wireKept .cmd58 s := wireKept_command .cmd58 _ _ s
  rw [runCmd58]
  split
  · exact (wireKept_readTrail (.inr rfl) _).trans hcmd
  · exact hcmd

/-- What is written as a frame changes nothing outside its row of `wireKept`. -/
theorem exec_wireKept {i : Instr} {f : Frame} {s t : State} (hi : i.encoded = .frame f) (ht : exec i s = .next t) :
    wireKept i t = wireKept i s := by
  cases i with
  | cmd0 | cmd55 | cmd1 | cmd24 => cases ht; exact wireKept_command _ _ _ s
  | cmd8 => cases ht; exact wireKept_runCmd8 s
  | acmd41 hcs => cases ht; exact (wireKept_afterAcmd41 hcs _).trans (wireKept_command _ _ _ s)
  | cmd58 => cases ht; exact wireKept_runCmd58 s
  | cmd17 arg => cases ht; exact (wireKept_afterCmd17 _ _).trans (wireKept_command _ _ _ s)
  | hostInitialize | hostStatus | hostRead | hostWrite | ioctlCtrlSync | ioctlGetSectorSize | ioctlGetBlockSize => cases hi

/-! ### The obligations -/

/-- Settles O24: `sendCommand_heard`; the clauses on the returned byte are `sendCommand_line` of the same state. -/
theorem sendCommandFollowsReply : Obligations.SendCommandFollowsReply := by
  intro index arg bound reply rest s hg h
  have hheard := sendCommand_heard (index := index) (arg := arg) hg h
  have hline : reply.line = if isFiller reply.returned then 1 else 0 := by
    have hcs := sendCommand_line index arg bound s
    rw [hheard] at hcs
    exact hcs
  refine ⟨hheard, ?_, fun hhigh => ?_⟩
  · rw [hline]
    cases isFiller reply.returned <;> decide
  · refine above_codes_of_isFiller (by_contra fun hf => ?_)
    rw [hline, if_neg hf] at hhigh
    exact absurd hhigh (by decide)

/-- Settles O25: seven bytes are ignored, and `exists_reply` finds the reply in the rest. -/
theorem everyCardReplies : Obligations.EveryCardReplies := by
  intro bound bytes hlen
  have hign : (bytes.take 7).length = 7 := List.length_take_of_le (by omega)
  have hpolled : bound < (bytes.drop 7).length := by rw [List.length_drop]; omega
  simpa only [List.take_append_drop] using exists_reply hign hpolled

/-- Settles O26: `sendCommand_xcount`, whatever the card answers. -/
theorem sendCommandExchangesBounded : Obligations.SendCommandExchangesBounded := sendCommand_xcount

/-- Settles O35: each unchanged register is a field of `wireKept`. -/
theorem wireCommandsFrame : Obligations.WireCommandsFrame := by
  intro i s t hi ht
  obtain ⟨f, hf⟩ : ∃ f, i.encoded = .frame f := by
    rcases hi with rfl | rfl | rfl | ⟨h, rfl⟩ | rfl | rfl | ⟨a, rfl⟩ | ⟨a, rfl⟩ <;> exact ⟨_, rfl⟩
  have field {α : Type} (g : State → α) : g (wireKept i t) = g (wireKept i s) := congrArg g (exec_wireKept hf ht)
  refine ⟨field (·.status), field (·.speed), field (·.sect), field (·.sidx), field (·.bcnt), field (·.op), field (·.unit),
    field (·.sector), field (·.count), field (·.query), field (·.code), field (·.flags), field (·.value), field (·.host),
    field (·.cfg), fun a => field (·.buf.read a), fun h8 => ?_, fun h58 => ?_, fun h8 h58 => ?_, fun h8 h41 => ?_⟩
  · simpa [wireKept, h8] using field (·.ctype)
  · simpa [wireKept, h58] using field (·.ccs)
  · simpa [wireKept, h8, h58] using field fun u => (u.trail0, u.trail1, u.trail2, u.trail3)
  · simpa [wireKept, h8, h41] using field (·.icnt)

end Sys2Proof.Machine

/-! PROOFS. INITIALIZE (41_initialization.md). First each wire command on the reply a card gives, as the exact next state; then the
ways INITIALIZE ends, its frame and its bound, for every card; then its runs on a scripted card, with `Reached` carried from the loop
head of step 4 through the iterations to the exits. -/

namespace Sys2Proof.Machine

/-! ### Response handling on the two sides of its test (R175, R180) -/

theorem runCmd8_of_idle {s : State} (h : (command idxIfCond argIfCond s).resp = respIdle) :
    runCmd8 s = afterR7 (readTrail (goto .iR7 { command idxIfCond argIfCond s with ctype := .v1Mmc })) := by
  rw [runCmd8, afterCmd8, if_pos h]; rfl

theorem runCmd8_of_other {s : State} (h : (command idxIfCond argIfCond s).resp ≠ respIdle) :
    runCmd8 s = beginAcmdLoop { command idxIfCond argIfCond s with ctype := .v1Mmc } := by
  rw [runCmd8, afterCmd8, if_neg h]
  exact if_neg (by rw [beginAcmdLoop_spec]; split <;> simp)

theorem runCmd58_of_ready {s : State} (h : (command idxReadOcr 0 s).resp = respReady) :
    runCmd58 s = afterOcr (readTrail (goto .iOcr (command idxReadOcr 0 s))) := by
  rw [runCmd58, afterCmd58, if_pos h]; rfl

theorem runCmd58_of_other {s : State} (h : (command idxReadOcr 0 s).resp ≠ respReady) :
    runCmd58 s = goto .iDone (command idxReadOcr 0 s) := by
  rw [runCmd58, afterCmd58, if_neg h]; rfl

/-! ### The wire commands on a card's reply (R174 to R180) -/

theorem command_heard {index : BitVec 6} {arg : Word} {reply : Reply} {rest : List Byte} {s : State}
    (hi : index ≠ idxGoIdle) (hg : reply.good s.cfg.nResp = true) (h : s.card = reply.bytes ++ rest) :
    command index arg s = afterReply index arg reply rest s := by
  rw [command, pollBound, if_neg hi]
  exact sendCommand_heard hg h

/-- The class is V2 when both bytes sent come back (R96). -/
theorem echoMatches_iff (c d : Byte) : echoMatches c d = true ↔ c = 0x01 ∧ d = 0xAA := by
  rw [echoMatches, Bool.and_eq_true, beq_iff_eq, beq_iff_eq]; rfl

theorem afterR7_phase (s : State) : (afterR7 s).phase = if 0 < s.cfg.nAcmd then .iCmd55 else .iFail := by
  rw [afterR7, beginAcmdLoop_spec]; split <;> rfl

section heard
variable {reply : Reply} {rest : List Byte} {s : State}

theorem runCmd0_heard (hg : reply.good s.cfg.nRespReset = true) (h : s.card = reply.bytes ++ rest) :
    runCmd0 s = { afterReply idxGoIdle 0 reply rest s with
      phase := if reply.returned = respIdle then .iCmd8 else .iFail } := by
  rw [runCmd0, show command idxGoIdle 0 s = afterReply idxGoIdle 0 reply rest s from sendCommand_heard hg h]; rfl

theorem runCmd8_heard_other (hg : reply.good s.cfg.nResp = true) (h : s.card = reply.bytes ++ rest)
    (hr : reply.returned ≠ respIdle) :
    runCmd8 s = { afterReply idxIfCond argIfCond reply rest s with
      ctype := .v1Mmc, icnt := 0, phase := if 0 < s.cfg.nAcmd then .iCmd55 else .iFail } := by
  have hcmd : command idxIfCond argIfCond s = afterReply idxIfCond argIfCond reply rest s := command_heard (by decide) hg h
  rw [runCmd8_of_other (by rw [hcmd]; exact hr), hcmd]; rfl

theorem runCmd8_heard_idle {a b c d : Byte} (hg : reply.good s.cfg.nResp = true)
    (h : s.card = reply.bytes ++ a :: b :: c :: d :: rest) (hr : reply.returned = respIdle) :
    runCmd8 s = { afterTrail a b c d rest (afterReply idxIfCond argIfCond reply (a :: b :: c :: d :: rest) s) with
      ctype := if echoMatches c d then .v2 else .v1Mmc, icnt := 0,
      phase := if 0 < s.cfg.nAcmd then .iCmd55 else .iFail } := by
  have hcmd : command idxIfCond argIfCond s = afterReply idxIfCond argIfCond reply (a :: b :: c :: d :: rest) s :=
    command_heard (by decide) hg h
  rw [runCmd8_of_idle (by rw [hcmd]; exact hr), hcmd, readTrail_heard rfl, afterR7_spec, afterR7_phase]; rfl

theorem runCmd55_heard (hg : reply.good s.cfg.nResp = true) (h : s.card = reply.bytes ++ rest) :
    runCmd55 s = { afterReply idxApp 0 reply rest s with
      phase := if respIdle < reply.returned then .iCmd1 else .iAcmd41 } := by
  rw [runCmd55, command_heard (index := idxApp) (by decide) hg h]; rfl

theorem runAcmd41_heard (hcs : Bool) (hg : reply.good s.cfg.nResp = true) (h : s.card = reply.bytes ++ rest) :
    runAcmd41 hcs s =
      if reply.returned = respReady then
        { afterReply idxSdOpCond (acmd41Arg hcs) reply rest s with phase := if s.ctype = .v2 then .iCmd58 else .iDone }
      else { afterReply idxSdOpCond (acmd41Arg hcs) reply rest s with
        icnt := s.icnt + 1, phase := if s.icnt + 1 < s.cfg.nAcmd then .iCmd55 else .iFail } := by
  rw [runAcmd41, command_heard (index := idxSdOpCond) (by decide) hg h]; rfl

theorem runCmd1_heard (hg : reply.good s.cfg.nResp = true) (h : s.card = reply.bytes ++ rest) :
    runCmd1 s = { afterReply idxOpCond 0 reply rest s with
      phase := if reply.returned = respReady then .iDone else .iFail } := by
  rw [runCmd1, command_heard (index := idxOpCond) (by decide) hg h]; rfl

theorem runCmd58_heard_other (hg : reply.good s.cfg.nResp = true) (h : s.card = reply.bytes ++ rest)
    (hr : reply.returned ≠ respReady) :
    runCmd58 s = { afterReply idxReadOcr 0 reply rest s with phase := .iDone } := by
  have hcmd : command idxReadOcr 0 s = afterReply idxReadOcr 0 reply rest s := command_heard (by decide) hg h
  rw [runCmd58_of_other (by rw [hcmd]; exact hr), hcmd]; rfl

theorem runCmd58_heard_ready {a b c d : Byte} (hg : reply.good s.cfg.nResp = true)
    (h : s.card = reply.bytes ++ a :: b :: c :: d :: rest) (hr : reply.returned = respReady) :
    runCmd58 s = { afterTrail a b c d rest (afterReply idxReadOcr 0 reply (a :: b :: c :: d :: rest) s) with
      ccs := capacityBit a, phase := .iDone } := by
  have hcmd : command idxReadOcr 0 s = afterReply idxReadOcr 0 reply (a :: b :: c :: d :: rest) s := command_heard (by decide) hg h
  rw [runCmd58_of_ready (by rw [hcmd]; exact hr), hcmd, readTrail_heard rfl]; rfl

/-- Step 1 on the bytes of its idle exchanges (R173). -/
theorem busReset_heard {power : List Byte} (hlen : power.length = s.cfg.nPwrup) (h : s.card = power ++ rest) :
    busReset s = { s with cs := 1, speed := some s.cfg.fSlow, pcnt := power.length, card := rest,
                          xcount := s.xcount + power.length, log := (powerTrace s.cfg power).reverse ++ s.log } := by
  rw [busReset, ← hlen, powerUp_heard power rest { select false (setSpeed s.cfg.fSlow s) with pcnt := 0 } h]
  apply State.ext <;> simp [powerTrace]

end heard

/-- The capacity-status bit is bit 6 (R66, R96). -/
theorem capacityBit_eq (t : Byte) : capacityBit t = if t.getLsbD 6 then 1 else 0 := by
  revert t; decide

/-! ### The ways INITIALIZE ends, for every card (R181 to R183) -/

/-- The state with everything blanked that steps 1 to 6 may write, but for STATUS and SPEED: what CMD8 may write, and CCS. -/
def initKept (s : State) : State := { wireKept .cmd8 s with ccs := 0 }

/-- What a wire command keeps, INITIALIZE keeps. -/
theorem initKept_of_exec {i : Instr} {f : Frame} {s t : State} (hi : i.encoded = .frame f) (ht : exec i s = .next t) :
    initKept t = initKept s :=
  have hblank (u : State) : initKept (wireKept i u) = initKept u := rfl
  (hblank t).symm.trans ((congrArg initKept (exec_wireKept hi ht)).trans (hblank s))

@[simp] theorem initKept_runCmd0 (s : State) : initKept (runCmd0 s) = initKept s := initKept_of_exec (i := .cmd0) rfl rfl
@[simp] theorem initKept_runCmd8 (s : State) : initKept (runCmd8 s) = initKept s := initKept_of_exec (i := .cmd8) rfl rfl
@[simp] theorem initKept_runCmd55 (s : State) : initKept (runCmd55 s) = initKept s := initKept_of_exec (i := .cmd55) rfl rfl
@[simp] theorem initKept_runAcmd41 (hcs : Bool) (s : State) : initKept (runAcmd41 hcs s) = initKept s :=
  initKept_of_exec (i := .acmd41 hcs) rfl rfl
@[simp] theorem initKept_runCmd1 (s : State) : initKept (runCmd1 s) = initKept s := initKept_of_exec (i := .cmd1) rfl rfl
@[simp] theorem initKept_runCmd58 (s : State) : initKept (runCmd58 s) = initKept s := initKept_of_exec (i := .cmd58) rfl rfl

theorem initKept_busReset (s : State) : initKept (busReset s) = initKept { s with speed := some s.cfg.fSlow } := by
  rw [busReset, powerUp_frame]; rfl

/-- One iteration of step 4 whose CMD55 is not rejected (R176). -/
def runRound (s : State) : State := runAcmd41 ((runCmd55 s).ctype == .v2) (runCmd55 s)

theorem acmdLoop_succ (n : Nat) (s : State) :
    acmdLoop (n + 1) s =
      if respIdle < (runCmd55 s).resp then legacyFallback (runCmd55 s)
      else if (runRound s).resp = respReady then afterLoop (runRound s) else acmdLoop n (runRound s) := rfl

@[simp] theorem runCmd55_cfg (s : State) : (runCmd55 s).cfg = s.cfg := command_cfg idxApp 0 s
@[simp] theorem runCmd55_ctype (s : State) : (runCmd55 s).ctype = s.ctype := command_ctype idxApp 0 s
@[simp] theorem runCmd55_ccs (s : State) : (runCmd55 s).ccs = s.ccs := command_ccs idxApp 0 s
@[simp] theorem runCmd1_ctype (s : State) : (runCmd1 s).ctype = s.ctype := command_ctype idxOpCond 0 s
@[simp] theorem runCmd1_ccs (s : State) : (runCmd1 s).ccs = s.ccs := command_ccs idxOpCond 0 s

@[simp] theorem initKept_runRound (s : State) : initKept (runRound s) = initKept s := by simp [runRound]
@[simp] theorem runRound_cfg (s : State) : (runRound s).cfg = s.cfg := by simp [runRound, runAcmd41]
@[simp] theorem runRound_ctype (s : State) : (runRound s).ctype = s.ctype := by
  rw [runRound, runAcmd41, afterAcmd41_spec]; simp
@[simp] theorem runRound_ccs (s : State) : (runRound s).ccs = s.ccs := by
  rw [runRound, runAcmd41, afterAcmd41_spec]; simp

@[simp] theorem runCmd58_ctype (s : State) : (runCmd58 s).ctype = s.ctype := by
  by_cases h : (command idxReadOcr 0 s).resp = respReady
  · rw [runCmd58_of_ready h, afterOcr_spec]; simp
  · rw [runCmd58_of_other h]; simp

/-- Step 3 gives every card a class (R175). -/
theorem runCmd8_ctype_ne_unknown (s : State) : (runCmd8 s).ctype ≠ .unknown := by
  by_cases h : (command idxIfCond argIfCond s).resp = respIdle
  · rw [runCmd8_of_idle h, afterR7_spec]
    simp only [readTrail_ctype, goto_ctype]
    split <;> simp
  · rw [runCmd8_of_other h, beginAcmdLoop_spec]; simp

/-- CMD8 does not write CCS. -/
@[simp] theorem runCmd8_ccs (s : State) : (runCmd8 s).ccs = s.ccs := by
  have h : (wireKept .cmd8 (runCmd8 s)).ccs = (wireKept .cmd8 s).ccs := by rw [wireKept_runCmd8]
  exact h

/-- Step 4 ends in step 7 or in the failure exit; the class is kept on the way, and the capacity bit on the way to a failure. -/
theorem acmdLoop_ends (n : Nat) (s : State) :
    ∃ u, initKept u = initKept s ∧ u.ctype = s.ctype ∧
      (acmdLoop n s = initDone u ∨ acmdLoop n s = initFail u ∧ u.ccs = s.ccs) := by
  induction n generalizing s with
  | zero => exact ⟨s, rfl, rfl, .inr ⟨rfl, rfl⟩⟩
  | succ n ih =>
    rw [acmdLoop_succ]
    split_ifs
    · refine ⟨runCmd1 (runCmd55 s), by simp, by simp, ?_⟩
      rw [legacyFallback]
      split
      · exact .inl rfl
      · exact .inr ⟨rfl, by simp⟩
    · rw [afterLoop]
      split
      · exact ⟨runCmd58 (runRound s), by simp, by simp, .inl rfl⟩
      · exact ⟨runRound s, by simp, by simp, .inl rfl⟩
    · obtain ⟨u, hkept, hctype, hend⟩ := ih (runRound s)
      exact ⟨u, by simpa using hkept, by simpa using hctype, by simpa using hend⟩

/-- STATUS, CTYPE, CCS and SPEED as the start of a request and step 1 leave them (R172, R173). -/
def slowStart (s : State) : State := { initStart s with speed := some s.cfg.fSlow }

theorem initKept_start (s : State) : initKept (runCmd0 (busReset (initStart s))) = initKept (slowStart s) :=
  (initKept_runCmd0 _).trans (initKept_busReset _)

theorem ccs_start (s : State) : (runCmd0 (busReset (initStart s))).ccs = 0 :=
  (command_ccs idxGoIdle 0 _).trans (by rw [busReset, powerUp_frame]; rfl)

/-- INITIALIZE ends in step 7 with a known class or in the failure exit with CCS 0, for every card. -/
theorem initializeCard_ends (s : State) :
    ∃ u, initKept u = initKept (slowStart s) ∧
      (initializeCard s = initDone u ∧ u.ctype ≠ .unknown ∨ initializeCard s = initFail u ∧ u.ccs = 0) := by
  rw [initializeCard]
  split
  · obtain ⟨u, hkept, hctype, hend⟩ := acmdLoop_ends (runCmd0 (busReset (initStart s))).cfg.nAcmd
      (runCmd8 (runCmd0 (busReset (initStart s))))
    rw [runCmd8_ccs, ccs_start] at hend
    exact ⟨u, hkept.trans ((initKept_runCmd8 _).trans (initKept_start s)),
      hend.imp_left fun h => ⟨h, hctype ▸ runCmd8_ctype_ne_unknown _⟩⟩
  · exact ⟨_, initKept_start s, .inr ⟨rfl, ccs_start s⟩⟩

/-! ### The exchanges of INITIALIZE (R185) -/

/-- A response takes the place of the timeout's idle exchange (R145, R146). -/
theorem pollResponse_xcount_of_answer (n : Nat) {s : State} (hs : isFiller s.resp = true)
    (h : isFiller (pollResponse n s).resp = false) : (pollResponse n s).xcount ≤ s.xcount + n := by
  induction n generalizing s with
  | zero => exact absurd (hs.symm.trans h) (by decide)
  | succ n ih =>
    rw [pollResponse] at h ⊢
    split at h
    case isTrue hf =>
      rw [if_pos hf]
      exact (ih hf h).trans (by rw [pollOnce_xcount]; omega)
    case isFalse hf =>
      rw [if_neg hf, pollOnce_xcount]; omega

theorem command_xcount_le (index : BitVec 6) (arg : Word) (s : State) :
    (command index arg s).xcount ≤ s.xcount + 8 + pollBound s.cfg index := (sendCommand_xcount index arg _ s).2

/-- A command that is answered leaves room for one exchange of the bound of R151. -/
theorem command_xcount_of_answer (index : BitVec 6) (arg : Word) {s : State}
    (h : isFiller (command index arg s).resp = false) :
    (command index arg s).xcount ≤ s.xcount + 7 + pollBound s.cfg index := by
  have hentry : (sendFrame (select true (deselect (loadDescriptor index arg s)))).xcount = s.xcount + 7 := by
    rw [sendFrame_spec]; rfl
  have hpoll := pollResponse_xcount_of_answer (pollBound s.cfg index) (by rw [sendFrame_spec]; exact isFiller_ff) h
  rwa [hentry] at hpoll

theorem busReset_xcount (s : State) : (busReset s).xcount = s.xcount + s.cfg.nPwrup := by
  rw [busReset, powerUp_frame]; rfl

theorem busReset_cfg (s : State) : (busReset s).cfg = s.cfg := by
  rw [busReset, powerUp_frame]; rfl

theorem runCmd0_xcount (s : State) : (runCmd0 s).xcount ≤ s.xcount + 8 + s.cfg.nRespReset :=
  command_xcount_le idxGoIdle 0 s

/-- Four trailing bytes are read only after an answer (R175). -/
theorem runCmd8_xcount (s : State) : (runCmd8 s).xcount ≤ s.xcount + 11 + s.cfg.nResp := by
  by_cases h : (command idxIfCond argIfCond s).resp = respIdle
  · have hx : (command idxIfCond argIfCond s).xcount ≤ s.xcount + 7 + s.cfg.nResp :=
      command_xcount_of_answer idxIfCond argIfCond (by rw [h]; rfl)
    rw [runCmd8_of_idle h, afterR7_spec]
    simp only [readTrail_xcount, goto_xcount]
    omega
  · have hx : (command idxIfCond argIfCond s).xcount ≤ s.xcount + 8 + s.cfg.nResp := command_xcount_le idxIfCond argIfCond s
    rw [runCmd8_of_other h, beginAcmdLoop_spec]
    dsimp only
    omega

theorem runCmd55_xcount (s : State) : (runCmd55 s).xcount ≤ s.xcount + 8 + s.cfg.nResp := command_xcount_le idxApp 0 s

theorem runCmd1_xcount (s : State) : (runCmd1 s).xcount ≤ s.xcount + 8 + s.cfg.nResp := command_xcount_le idxOpCond 0 s

theorem runAcmd41_xcount (hcs : Bool) (s : State) : (runAcmd41 hcs s).xcount ≤ s.xcount + 8 + s.cfg.nResp := by
  rw [runAcmd41, afterAcmd41_spec]
  exact command_xcount_le idxSdOpCond (acmd41Arg hcs) s

/-- Four OCR bytes are read only after an answer (R180). -/
theorem runCmd58_xcount (s : State) : (runCmd58 s).xcount ≤ s.xcount + 11 + s.cfg.nResp := by
  by_cases h : (command idxReadOcr 0 s).resp = respReady
  · have hx : (command idxReadOcr 0 s).xcount ≤ s.xcount + 7 + s.cfg.nResp :=
      command_xcount_of_answer idxReadOcr 0 (by rw [h]; rfl)
    rw [runCmd58_of_ready h, afterOcr_spec]
    simp only [readTrail_xcount, goto_xcount]
    omega
  · have hx : (command idxReadOcr 0 s).xcount ≤ s.xcount + 8 + s.cfg.nResp := command_xcount_le idxReadOcr 0 s
    rw [runCmd58_of_other h, goto_xcount]
    omega

theorem runRound_xcount (s : State) : (runRound s).xcount ≤ s.xcount + 2 * (8 + s.cfg.nResp) := by
  have happ := runCmd55_xcount s
  have hop := runAcmd41_xcount ((runCmd55 s).ctype == .v2) (runCmd55 s)
  rw [runCmd55_cfg] at hop
  rw [runRound]
  omega

theorem initDone_xcount (s : State) : (initDone s).xcount = s.xcount + 1 := rfl
theorem initFail_xcount (s : State) : (initFail s).xcount = s.xcount + 1 := rfl

theorem legacyFallback_xcount (s : State) : (legacyFallback s).xcount ≤ s.xcount + (8 + s.cfg.nResp) + 1 := by
  have hx := runCmd1_xcount s
  rw [legacyFallback]
  split <;> simp only [initDone_xcount, initFail_xcount] <;> omega

theorem afterLoop_xcount (s : State) : (afterLoop s).xcount ≤ s.xcount + (11 + s.cfg.nResp) + 1 := by
  have hx := runCmd58_xcount s
  rw [afterLoop]
  split <;> rw [initDone_xcount] <;> omega

/-- Two commands for each iteration, one CMD58 and the `Deselect` of the exit; a fallback takes the place of an ACMD41. -/
theorem acmdLoop_xcount (n : Nat) (s : State) :
    (acmdLoop n s).xcount ≤ s.xcount + 2 * n * (8 + s.cfg.nResp) + (11 + s.cfg.nResp) + 1 := by
  induction n generalizing s with
  | zero => rw [acmdLoop, initFail_xcount]; omega
  | succ n ih =>
    have hiterations : 2 * (n + 1) * (8 + s.cfg.nResp) = 2 * n * (8 + s.cfg.nResp) + 2 * (8 + s.cfg.nResp) := by ring
    rw [acmdLoop_succ, hiterations]
    split_ifs
    · have happ := runCmd55_xcount s
      have hend := legacyFallback_xcount (runCmd55 s)
      rw [runCmd55_cfg] at hend
      omega
    · have hround := runRound_xcount s
      have hend := afterLoop_xcount (runRound s)
      rw [runRound_cfg] at hend
      omega
    · have hround := runRound_xcount s
      have hend := ih (runRound s)
      rw [runRound_cfg] at hend
      omega

theorem runCmd0_cfg (s : State) : (runCmd0 s).cfg = s.cfg := command_cfg idxGoIdle 0 s

theorem runCmd8_cfg (s : State) : (runCmd8 s).cfg = s.cfg := by
  obtain ⟨u, hu, hcfg⟩ := runCmd8_beginsLoop s
  rw [hu]; exact hcfg

theorem initializeCard_xcount (s : State) :
    (initializeCard s).xcount ≤ s.xcount + s.cfg.nPwrup + (8 + s.cfg.nRespReset) + (11 + s.cfg.nResp) +
      2 * s.cfg.nAcmd * (8 + s.cfg.nResp) + (11 + s.cfg.nResp) + 1 := by
  have hcfg : (busReset (initStart s)).cfg = s.cfg := busReset_cfg _
  have hreset : (busReset (initStart s)).xcount = s.xcount + s.cfg.nPwrup := busReset_xcount _
  have hgo := runCmd0_xcount (busReset (initStart s))
  rw [hreset, hcfg] at hgo
  rw [initializeCard]
  split
  · have hclass := runCmd8_xcount (runCmd0 (busReset (initStart s)))
    have hloop := acmdLoop_xcount (runCmd0 (busReset (initStart s))).cfg.nAcmd (runCmd8 (runCmd0 (busReset (initStart s))))
    rw [runCmd8_cfg] at hloop
    rw [runCmd0_cfg, hcfg] at hclass hloop
    rw [runCmd0_cfg, hcfg]
    omega
  · rw [initFail_xcount]
    omega

/-! ### STATUS on the way out (R21, R172, R181) -/

theorem noinit_set (x : Byte) : (x ||| 0x01#8) &&& 0x01#8 = 0x01#8 := by
  revert x; decide

theorem noinit_cleared (x : Byte) : (x &&& 0xFE#8) &&& 0x01#8 = 0x00#8 := by
  revert x; decide

/-- Setting and clearing NOINIT leaves the reserved bits. -/
theorem reserved_bits_kept {n : Nat} (hn : 1 ≤ n) (x : Byte) :
    (x ||| 0x01#8).getLsbD n = x.getLsbD n ∧ ((x ||| 0x01#8) &&& 0xFE#8).getLsbD n = x.getLsbD n := by
  rcases Nat.lt_or_ge n 8 with h | h
  · interval_cases n <;> simp
  · simp [BitVec.getLsbD_of_ge _ n h]

/-! ### Where a run on a scripted card stands (R183) -/

/-- Between two commands of steps 4 to 7: the card has class `k`, CCS is `c`, `n` iterations are counted, `evs` are the events since
the request was taken in `s`, and `rest` is what the card has not yet sent. -/
structure Reached (s : State) (k : CardType) (c : BitVec 1) (n : Nat) (evs : List Event) (rest : List Byte) (u : State) : Prop where
  kept : initKept u = initKept (slowStart s)
  ctype : u.ctype = k
  ccs : u.ccs = c
  icnt : u.icnt = n
  card : u.card = rest
  log : u.log = evs.reverse ++ s.log

section reached
variable {s u : State} {k : CardType} {c : BitVec 1} {n : Nat} {evs : List Event} {rest : List Byte}

theorem Reached.cfg (h : Reached s k c n evs rest u) : u.cfg = s.cfg :=
  show (initKept u).cfg = (initKept (slowStart s)).cfg by rw [h.kept]

theorem Reached.status (h : Reached s k c n evs rest u) : u.status = s.status ||| 0x01 :=
  show (initKept u).status = (initKept (slowStart s)).status by rw [h.kept]

theorem Reached.speed (h : Reached s k c n evs rest u) : u.speed = some s.cfg.fSlow :=
  show (initKept u).speed = (initKept (slowStart s)).speed by rw [h.kept]

theorem Reached.buf (h : Reached s k c n evs rest u) : u.buf = s.buf :=
  show (initKept u).buf = (initKept (slowStart s)).buf by rw [h.kept]

theorem Opening.good_iff {cfg : Config} {o : Opening} : o.good cfg = true ↔
    o.power.length = cfg.nPwrup ∧ o.cmd0.good cfg.nRespReset = true ∧ o.cmd0.returned = respIdle ∧
      o.cmd8.good cfg.nResp = true ∧ o.trail.length = if o.cmd8.returned = respIdle then 4 else 0 := by
  simp [Opening.good, and_assoc]

theorem Round.begun_iff {cfg : Config} {r : Round} : r.begun cfg = true ↔
    r.app.good cfg.nResp = true ∧ r.app.returned ≤ respIdle ∧ r.op.good cfg.nResp = true := by
  simp [Round.begun, and_assoc]

theorem OcrAnswer.good_iff {cfg : Config} {a : OcrAnswer} : a.good cfg = true ↔
    a.cmd.good cfg.nResp = true ∧ a.ocr.length = if a.cmd.returned = respReady then 4 else 0 := by
  simp [OcrAnswer.good]

/-- Step 3 on the bytes of an opening (R175). -/
theorem runCmd8_opening {o : Opening} (ho : o.good u.cfg = true) (h : u.card = o.cmd8.bytes ++ (o.trail ++ rest)) :
    (runCmd8 u).ctype = o.cardType ∧ (runCmd8 u).icnt = 0 ∧ (runCmd8 u).card = rest ∧
      (runCmd8 u).log = (o.cmd8.trace (commandFrame idxIfCond argIfCond) ++ listen o.trail).reverse ++ u.log := by
  obtain ⟨-, -, -, hg, hlen⟩ := Opening.good_iff.mp ho
  by_cases hr : o.cmd8.returned = respIdle
  · rw [if_pos hr] at hlen
    match htrail : o.trail, hlen with
    | [a, b, x, y], _ =>
      rw [htrail] at h
      rw [runCmd8_heard_idle hg h hr]
      refine ⟨?_, rfl, rfl, ?_⟩
      · simp only [Opening.cardType, htrail, hr, echoMatches_iff]
        simp
      · simp [afterTrail, afterReply]
  · rw [if_neg hr] at hlen
    have htrail : o.trail = [] := List.length_eq_zero_iff.mp hlen
    rw [htrail] at h
    rw [runCmd8_heard_other hg h hr]
    refine ⟨?_, rfl, rfl, ?_⟩
    · exact (if_neg fun hv => hr hv.1).symm
    · simp [afterReply, htrail, listen]

/-- Steps 1 to 3 on a card that step 2 passes. -/
theorem Reached.opening {o : Opening} (ho : o.good s.cfg = true) (h : s.card = o.bytes ++ rest) :
    ∃ u, initializeCard s = acmdLoop s.cfg.nAcmd u ∧ Reached s o.cardType 0 0 (o.trace s.cfg) rest u := by
  obtain ⟨hpower, hg, hr, -, -⟩ := Opening.good_iff.mp ho
  have hreset := busReset_heard (s := initStart s) (rest := o.cmd0.bytes ++ (o.cmd8.bytes ++ (o.trail ++ rest))) hpower
    (h.trans (by simp [Opening.bytes]))
  have hgo := runCmd0_heard (s := busReset (initStart s)) (reply := o.cmd0) (rest := o.cmd8.bytes ++ (o.trail ++ rest))
    (by rw [hreset]; exact hg) (by rw [hreset])
  have hcfg : (runCmd0 (busReset (initStart s))).cfg = s.cfg := by rw [hgo, hreset]; rfl
  obtain ⟨hctype, hicnt, hcard, hlog⟩ := runCmd8_opening (u := runCmd0 (busReset (initStart s))) (o := o) (rest := rest)
    (by rw [hcfg]; exact ho) (by rw [hgo]; rfl)
  refine ⟨runCmd8 (runCmd0 (busReset (initStart s))), ?_, (initKept_runCmd8 _).trans (initKept_start s), hctype,
    (runCmd8_ccs _).trans (ccs_start s), hicnt, hcard, ?_⟩
  · rw [initializeCard, hcfg]
    exact if_pos (by rw [hgo]; exact hr)
  · rw [hlog, hgo, hreset]
    simp [afterReply, initStart, Opening.trace]

/-- A reply heard, and a move of PHASE. -/
theorem Reached.heard {r : Reply} (h : Reached s k c n evs (r.bytes ++ rest) u) (index : BitVec 6) (arg : Word) (p : Phase) :
    Reached s k c n (evs ++ r.trace (commandFrame index arg)) rest (goto p (afterReply index arg r rest u)) :=
  ⟨h.kept, h.ctype, h.ccs, h.icnt, rfl, by simp [afterReply, h.log]⟩

theorem Reached.cmd55 {r : Reply} (h : Reached s k c n evs (r.bytes ++ rest) u) (hg : r.good s.cfg.nResp = true) :
    (runCmd55 u).resp = r.returned ∧ Reached s k c n (evs ++ r.trace (commandFrame idxApp 0)) rest (runCmd55 u) := by
  rw [runCmd55_heard (by rw [h.cfg]; exact hg) h.card]
  exact ⟨rfl, h.heard idxApp 0 _⟩

theorem Reached.cmd1 {r : Reply} (h : Reached s k c n evs (r.bytes ++ rest) u) (hg : r.good s.cfg.nResp = true) :
    (runCmd1 u).resp = r.returned ∧ Reached s k c n (evs ++ r.trace (commandFrame idxOpCond 0)) rest (runCmd1 u) := by
  rw [runCmd1_heard (by rw [h.cfg]; exact hg) h.card]
  exact ⟨rfl, h.heard idxOpCond 0 _⟩

/-- ACMD41 counts an iteration unless it is answered `0x00` (R178). -/
theorem Reached.acmd41 {r : Reply} (h : Reached s k c n evs (r.bytes ++ rest) u) (hg : r.good s.cfg.nResp = true) (hcs : Bool) :
    (runAcmd41 hcs u).resp = r.returned ∧
      Reached s k c (if r.returned = respReady then n else n + 1) (evs ++ r.trace (commandFrame idxSdOpCond (acmd41Arg hcs))) rest
        (runAcmd41 hcs u) := by
  rw [runAcmd41_heard hcs (by rw [h.cfg]; exact hg) h.card]
  have hheard := h.heard idxSdOpCond (acmd41Arg hcs) .idle
  split
  · exact ⟨rfl, hheard.kept, h.ctype, h.ccs, h.icnt, rfl, hheard.log⟩
  · exact ⟨rfl, hheard.kept, h.ctype, h.ccs, congrArg (· + 1) h.icnt, rfl, hheard.log⟩

/-- An iteration whose CMD55 is not rejected (R176 to R178). -/
theorem Reached.round {r : Round} (h : Reached s k c n evs (r.bytes ++ rest) u) (hr : r.begun s.cfg = true) :
    ¬ respIdle < (runCmd55 u).resp ∧ (runRound u).resp = r.op.returned ∧
      Reached s k c (if r.op.returned = respReady then n else n + 1) (evs ++ r.trace k) rest (runRound u) := by
  obtain ⟨hgapp, hle, hgop⟩ := Round.begun_iff.mp hr
  obtain ⟨happ, h55⟩ := Reached.cmd55 (r := r.app) (rest := r.op.bytes ++ rest) (by simpa [Round.bytes] using h) hgapp
  obtain ⟨hop, h41⟩ := h55.acmd41 hgop (k == .v2)
  rw [runRound, h55.ctype, Round.trace, ← List.append_assoc]
  exact ⟨by rw [happ]; exact BitVec.not_lt.mpr hle, hop, h41⟩

/-- Waiting iterations are counted one by one (R176). -/
theorem Reached.waits {waits : List Round} (h : Reached s k c n evs (roundsBytes waits ++ rest) u)
    (hw : waitingRounds s.cfg waits = true) (m : Nat) :
    ∃ v, acmdLoop (waits.length + m) u = acmdLoop m v ∧
      Reached s k c (n + waits.length) (evs ++ roundsTrace k waits) rest v := by
  induction waits generalizing n evs u with
  | nil => exact ⟨u, by simp, by simpa [roundsBytes, roundsTrace] using h⟩
  | cons r rs ih =>
    simp only [waitingRounds, List.all_cons, Bool.and_eq_true, bne_iff_ne] at hw
    obtain ⟨⟨hbegun, hwait⟩, hrs⟩ := hw
    obtain ⟨happ, hop, hnext⟩ := Reached.round (rest := roundsBytes rs ++ rest) (by simpa [roundsBytes] using h) hbegun
    rw [if_neg hwait] at hnext
    obtain ⟨v, hv, hreach⟩ := ih hnext hrs
    refine ⟨v, ?_, by simpa [roundsTrace, Nat.add_comm, Nat.add_left_comm] using hreach⟩
    rw [List.length_cons, Nat.add_right_comm, acmdLoop_succ, if_neg happ, if_neg (by rw [hop]; exact hwait), hv]

/-- Steps 1 to 3 and the waiting iterations, with `m` iterations left. -/
theorem Reached.openingAndWaits {o : Opening} {waits : List Round} {m : Nat} (ho : o.good s.cfg = true)
    (hw : waitingRounds s.cfg waits = true) (hm : waits.length + m = s.cfg.nAcmd)
    (h : s.card = o.bytes ++ (roundsBytes waits ++ rest)) :
    ∃ v, initializeCard s = acmdLoop m v ∧
      Reached s o.cardType 0 waits.length (o.trace s.cfg ++ roundsTrace o.cardType waits) rest v := by
  obtain ⟨u, hu, hreach⟩ := Reached.opening ho h
  obtain ⟨v, hv, hreach⟩ := hreach.waits hw m
  rw [Nat.zero_add] at hreach
  exact ⟨v, by rw [hu, ← hm, hv], hreach⟩

/-- Step 6 (R180). -/
theorem Reached.cmd58 {a : OcrAnswer} (h : Reached s k 0 n evs (a.bytes ++ rest) u) (ha : a.good s.cfg = true) :
    Reached s k a.capacity n (evs ++ a.trace) rest (runCmd58 u) := by
  obtain ⟨hg, hlen⟩ := OcrAnswer.good_iff.mp ha
  rw [← h.cfg] at hg
  have hcard : u.card = a.cmd.bytes ++ (a.ocr ++ rest) := h.card.trans (by simp [OcrAnswer.bytes])
  have hkept := (initKept_runCmd58 u).trans h.kept
  by_cases hr : a.cmd.returned = respReady
  · rw [if_pos hr] at hlen
    match hocr : a.ocr, hlen with
    | [b0, b1, b2, b3], _ =>
      rw [hocr] at hcard
      rw [runCmd58_heard_ready hg hcard hr] at hkept ⊢
      refine ⟨hkept, h.ctype, by simp [OcrAnswer.capacity, hocr], h.icnt, rfl, ?_⟩
      simp [afterTrail, afterReply, OcrAnswer.trace, hocr, h.log]
  · rw [if_neg hr] at hlen
    have hocr : a.ocr = [] := List.length_eq_zero_iff.mp hlen
    rw [hocr] at hcard
    rw [runCmd58_heard_other hg hcard hr] at hkept ⊢
    refine ⟨hkept, h.ctype, h.ccs.trans (by simp [OcrAnswer.capacity, hocr]), h.icnt, rfl, ?_⟩
    simp [afterReply, OcrAnswer.trace, hocr, listen, h.log]

/-- After the loop: step 6 exactly for a V2 card, then step 7 (R183). -/
theorem Reached.confirmed {ocr : Option OcrAnswer} (h : Reached s k 0 n evs (ocr.elim [] OcrAnswer.bytes ++ rest) u)
    (hocr : k = .v2 ↔ ocr.isSome = true) (ha : ∀ a, ocr = some a → a.good s.cfg = true) :
    ∃ w, afterLoop u = initDone w ∧
      Reached s k (ocr.elim 0 OcrAnswer.capacity) n (evs ++ ocr.elim [] OcrAnswer.trace) rest w := by
  cases ocr with
  | some a => exact ⟨_, if_pos (h.ctype.trans (hocr.mpr rfl)), h.cmd58 (ha a rfl)⟩
  | none => exact ⟨u, if_neg fun hv => absurd (hocr.mp (h.ctype.symm.trans hv)) (by simp), by simpa using h⟩

/-- Step 7 (R181). -/
theorem Reached.done {idle : Byte} (h : Reached s k c n evs (idle :: rest) u) :
    (initDone u).status = (s.status ||| 0x01) &&& 0xFE ∧ (initDone u).flags = 0x00 ∧ (initDone u).speed = some s.cfg.fFast ∧
      (initDone u).card = rest ∧
      (initDone u).log = (evs ++ deselectEvents idle ++ [Event.spd s.cfg.fFast]).reverse ++ s.log := by
  rw [initDone_spec, h.status, h.cfg]
  exact ⟨rfl, noinit_cleared _, rfl, by simp [h.card], by simp [h.log, deselectEvents, rx_cons h.card]⟩

/-- The failure exit (R182). -/
theorem Reached.failed {idle : Byte} (h : Reached s k c n evs (idle :: rest) u) :
    (initFail u).flags = 0x01 ∧ (initFail u).card = rest ∧
      (initFail u).log = (evs ++ deselectEvents idle).reverse ++ s.log := by
  rw [initFail_spec, h.status]
  exact ⟨noinit_set _, by simp [h.card], by simp [h.log, deselectEvents, rx_cons h.card]⟩

end reached

/-! ### The obligations -/

/-- INITIALIZE runs for the valid unit, and is answered at once for any other (R171). -/
theorem execHostInitialize_cases {unit : Byte} {s t : State} (ht : exec (.hostInitialize unit) s = .next t) :
    unit = unitValid ∧ t = initializeCard s ∨ unit ≠ unitValid ∧ t = respond resOk 0 unit s := by
  by_cases hunit : unit = unitValid
  · cases (congrArg Host.Outcome.next (if_pos hunit)).symm.trans ht
    exact .inl ⟨hunit, rfl⟩
  · cases (congrArg Host.Outcome.next (if_neg hunit)).symm.trans ht
    exact .inr ⟨hunit, rfl⟩

/-- Settles O40: `Reached` is carried through the opening, the waits, the last iteration and step 6 to `initDone`. -/
theorem initializeSucceedsByLoop : Obligations.InitializeSucceedsByLoop := by
  intro o waits last ocr idle rest s ho hw hlt hlast hready hocr ha h
  replace hready : last.op.returned = respReady := hready
  obtain ⟨m, hm⟩ : ∃ m, waits.length + (m + 1) = s.cfg.nAcmd := ⟨s.cfg.nAcmd - waits.length - 1, by omega⟩
  obtain ⟨v, hv, hreach⟩ := Reached.openingAndWaits (rest := last.bytes ++ (ocr.elim [] OcrAnswer.bytes ++ idle :: rest)) ho hw hm
    (by simpa using h)
  obtain ⟨happ, hop, hreach⟩ := hreach.round hlast
  rw [if_pos hready] at hreach
  obtain ⟨w, hafter, hreach⟩ := hreach.confirmed hocr ha
  have ht : initializeCard s = initDone w := by
    rw [hv, acmdLoop_succ, if_neg happ, if_pos (hop.trans hready), hafter]
  obtain ⟨hstatus, hflags, hspeed, hcard, hlog⟩ := hreach.done
  exact ⟨initDone w, congrArg Host.Outcome.next ht, hstatus, rfl, hspeed, hreach.ctype, hreach.ccs, rfl, rfl, hflags, rfl,
    hreach.icnt, hcard, hreach.buf, hlog⟩

/-- Settles O41: after the waits CMD55 is rejected, and the loop ends in `legacyFallback`, which sends CMD1 alone. -/
theorem initializeFallsBackOnce : Obligations.InitializeFallsBackOnce := by
  intro o waits app op idle rest s ho hw hlt hgapp habort hgop h
  obtain ⟨m, hm⟩ : ∃ m, waits.length + (m + 1) = s.cfg.nAcmd := ⟨s.cfg.nAcmd - waits.length - 1, by omega⟩
  obtain ⟨v, hv, hreach⟩ := Reached.openingAndWaits (rest := app.bytes ++ (op.bytes ++ idle :: rest)) ho hw hm (by simpa using h)
  obtain ⟨happ, hreach⟩ := hreach.cmd55 hgapp
  obtain ⟨hop, hreach⟩ := hreach.cmd1 hgop
  have ht : initializeCard s = legacyFallback (runCmd55 v) := by
    rw [hv, acmdLoop_succ, if_pos (by rw [happ]; exact habort)]
  by_cases hready : op.returned = 0x00
  · rw [legacyFallback, if_pos (show (runCmd1 (runCmd55 v)).resp = respReady from hop.trans hready)] at ht
    obtain ⟨hstatus, hflags, hspeed, hcard, hlog⟩ := hreach.done
    simp only [if_pos hready]
    exact ⟨_, congrArg Host.Outcome.next ht, rfl, hreach.ctype, hreach.ccs, rfl, rfl, rfl, hcard,
      ⟨hstatus, hflags, hspeed⟩, hlog⟩
  · rw [legacyFallback, if_neg (show ¬ (runCmd1 (runCmd55 v)).resp = respReady by rw [hop]; exact hready)] at ht
    obtain ⟨hflags, hcard, hlog⟩ := hreach.failed
    simp only [if_neg hready, List.append_nil]
    exact ⟨_, congrArg Host.Outcome.next ht, rfl, hreach.ctype, hreach.ccs, rfl, rfl, rfl, hcard,
      ⟨hreach.status, hflags, hreach.speed⟩, hlog⟩

/-- Settles O42: as many waits as iterations leave none, and the loop ends in `initFail`. -/
theorem initializeTimesOutInLoop : Obligations.InitializeTimesOutInLoop := by
  intro o waits idle rest s ho hw hlen h
  obtain ⟨v, hv, hreach⟩ := Reached.openingAndWaits (m := 0) (rest := idle :: rest) ho hw hlen (by simpa using h)
  obtain ⟨hflags, hcard, hlog⟩ := hreach.failed
  exact ⟨initFail v, congrArg Host.Outcome.next hv, hreach.status, hflags, rfl, hreach.speed, hreach.ctype, hreach.ccs, rfl, rfl,
    rfl, hreach.icnt.trans hlen, hcard, hlog⟩

/-- Settles O27: `runCmd0_heard`. -/
theorem cmd0PassesOnlyOnIdleCode : Obligations.Cmd0PassesOnlyOnIdleCode :=
  fun _ _ _ hg h => congrArg Host.Outcome.next (runCmd0_heard hg h)

/-- Settles O28: the two sides of the test for the idle code. -/
theorem cmd8ClassifiesByEcho : Obligations.Cmd8ClassifiesByEcho := by
  refine ⟨fun reply rest s hg h hr => congrArg Host.Outcome.next (runCmd8_heard_other hg h hr),
    fun reply a b c d rest s hg h hr => ?_⟩
  simp only [← echoMatches_iff]
  exact congrArg Host.Outcome.next (runCmd8_heard_idle hg h hr)

/-- Settles O29: `runCmd55_heard`; bytes are compared as natural numbers. -/
theorem cmd55AbortsAboveIdleCode : Obligations.Cmd55AbortsAboveIdleCode :=
  fun _ _ _ hg h => congrArg Host.Outcome.next (runCmd55_heard hg h)

/-- Settles O30: `runAcmd41_heard`. -/
theorem acmd41EndsLoopOnlyOnReady : Obligations.Acmd41EndsLoopOnlyOnReady :=
  fun hcs _ _ _ hg h => congrArg Host.Outcome.next (runAcmd41_heard hcs hg h)

/-- Settles O31: `runCmd1_heard`. -/
theorem cmd1SucceedsOnlyOnReady : Obligations.Cmd1SucceedsOnlyOnReady :=
  fun _ _ _ hg h => congrArg Host.Outcome.next (runCmd1_heard hg h)

/-- Settles O32: the two sides of the test for the ready code. -/
theorem cmd58LatchesCapacityBit : Obligations.Cmd58LatchesCapacityBit := by
  refine ⟨fun reply rest s hg h hr => congrArg Host.Outcome.next (runCmd58_heard_other hg h hr),
    fun reply a b c d rest s hg h hr => ?_⟩
  rw [← capacityBit_eq]
  exact congrArg Host.Outcome.next (runCmd58_heard_ready hg h hr)

/-- Settles O36: the answer is `respond`, whose FLAGS are `0x01` for any unit but the valid one. -/
theorem initializeInvalidUnit : Obligations.InitializeInvalidUnit := by
  intro unit s hunit
  have hflags : flagsFor unit s = 0x01 := if_neg hunit
  calc exec (.hostInitialize unit) s = .next (respond resOk 0 unit s) := congrArg Host.Outcome.next (if_neg hunit)
    _ = _ := by rw [respond, hflags]; rfl

/-- Settles O37: the two ends of `initializeCard_ends`. -/
theorem initializeEndsReadyOrFailed : Obligations.InitializeEndsReadyOrFailed := by
  intro s hstatus
  obtain ⟨u, hkept, hend⟩ := initializeCard_ends s
  have field {α : Type} (g : State → α) : g (initKept u) = g (initKept (slowStart s)) := congrArg g hkept
  have hcfg : u.cfg = s.cfg := field (·.cfg)
  have hset : u.status = 0x01 := by
    have h : u.status = s.status ||| 0x01 := field (·.status)
    rcases hstatus with h0 | h0 <;> rw [h, h0] <;> rfl
  refine ⟨initializeCard s, rfl, (initializeCard_rested s).1, (initializeCard_rested s).2, ?_⟩
  rcases hend with ⟨ht, hctype⟩ | ⟨ht, hccs⟩
  · rw [ht, initDone_spec, hcfg, hset]
    exact ⟨rfl, rfl, .inl ⟨rfl, rfl, rfl, hctype⟩⟩
  · rw [ht, initFail_spec, hset]
    exact ⟨rfl, rfl, .inr ⟨rfl, rfl, field (·.speed), hccs⟩⟩

/-- Settles O38: each unchanged register is a field of `initKept`; the exits write STATUS in bit 0 only. -/
theorem initializeFrame : Obligations.InitializeFrame := by
  intro unit s t ht
  rcases execHostInitialize_cases ht with ⟨-, rfl⟩ | ⟨-, rfl⟩
  · obtain ⟨u, hkept, hend⟩ := initializeCard_ends s
    have field {α : Type} (g : State → α) : g (initKept u) = g (initKept (slowStart s)) := congrArg g hkept
    have hset : u.status = s.status ||| 0x01 := field (·.status)
    rcases hend with ⟨hend, -⟩ | ⟨hend, -⟩ <;> rw [hend] <;>
      refine ⟨field (·.cfg), field (·.sect), field (·.sidx), field (·.bcnt), field (·.op), field (·.unit), field (·.sector),
        field (·.count), field (·.query), field (·.host), fun a => field (·.buf.read a), fun n hn => ?_⟩
    · rw [initDone_spec, hset]; exact (reserved_bits_kept hn s.status).2
    · rw [initFail_spec, hset]; exact (reserved_bits_kept hn s.status).1
  · exact ⟨rfl, rfl, rfl, rfl, rfl, rfl, rfl, rfl, rfl, rfl, fun _ => rfl, fun _ _ => rfl⟩

/-- Settles O43: `initializeCard_xcount`; an invalid unit makes no exchange. -/
theorem initializeExchangesBounded : Obligations.InitializeExchangesBounded := by
  intro unit s t ht
  rcases execHostInitialize_cases ht with ⟨-, rfl⟩ | ⟨-, rfl⟩
  · exact initializeCard_xcount s
  · rw [respond_xcount]; omega

/-- Settles O39: step 1, CMD0 and the failure exit on the card's bytes, one after the other. -/
theorem initializeFailsAtGoIdle : Obligations.InitializeFailsAtGoIdle := by
  intro power reply last rest s hlen hg hr h
  have hreset := busReset_heard (s := initStart s) (rest := reply.bytes ++ last :: rest) hlen
    (h.trans (List.append_assoc _ _ _))
  have hgo := runCmd0_heard (s := busReset (initStart s)) (reply := reply) (rest := last :: rest)
    (by rw [hreset]; exact hg) (by rw [hreset])
  have hfail : initializeCard s = initFail (runCmd0 (busReset (initStart s))) := if_neg (by rw [hgo]; exact hr)
  refine congrArg Host.Outcome.next (hfail.trans ?_)
  rw [initFail_spec, hgo, hreset]
  apply State.ext
  case flags => exact noinit_set s.status
  case log => simp [afterReply, initStart, deselectEvents, rx, idxGoIdle]
  all_goals rfl

end Sys2Proof.Machine

/-! PROOFS. READ and WRITE (42_block_transfer.md). First what holds for every card: what a transfer leaves unchanged, how it ends,
which buffer bytes READ may store, the exchanges. Then the runs on a scripted card: `Progress` is carried through the procedures of a
sector and through the sectors, for READ and for WRITE; last the round trip, with the blocks read from WRITE's events. -/

namespace Sys2Proof.Machine

/-! ### The pre-checks (R201) -/

theorem transferCheck_badUnit {unit : Byte} (hunit : unit ≠ unitValid) (count : Word) (s : State) :
    transferCheck unit count s = some .parameterError := if_pos hunit

theorem transferCheck_noCount (s : State) : transferCheck unitValid 0 s = some .parameterError := rfl

theorem transferCheck_notReady {count : Word} {s : State} (hcount : count ≠ 0) (hn : notInitialized s = true) :
    transferCheck unitValid count s = some .notReady := by
  rw [transferCheck, if_neg (not_not.mpr rfl), if_neg hcount, if_pos hn]

theorem transferCheck_ready {count : Word} {s : State} (hcount : count ≠ 0) (hn : notInitialized s = false) :
    transferCheck unitValid count s = none := by
  rw [transferCheck, if_neg (not_not.mpr rfl), if_neg hcount, if_neg (by rw [hn]; decide)]

/-- READ or WRITE turned away. -/
theorem exec_transfer_rejected {i : Instr} {unit : Byte} {sector count : Word} {s : State} {e : ErrorKind}
    (hi : i = .hostRead unit sector count ∨ i = .hostWrite unit sector count) (h : transferCheck unit count s = some e) :
    exec i s = .next (raiseError e unit s) := by
  rcases hi with rfl | rfl
  · exact execHostRead_rejected h
  · exact execHostWrite_rejected h

/-- READ of a READY device runs its sector loop. -/
theorem exec_hostRead_ready {sector count : Word} {s : State} (hn : notInitialized s = false) (hcount : count ≠ 0) :
    exec (.hostRead unitValid sector count) s =
      .next (sectorLoop readSector unitValid sector count.toNat { s with sidx := 0 }) := by
  rw [← readSectors_eq_sectorLoop]
  exact execHostRead_accepted (transferCheck_ready hcount hn)

/-- WRITE on a READY device runs its sector loop. -/
theorem exec_hostWrite_ready {sector count : Word} {s : State} (hn : notInitialized s = false) (hcount : count ≠ 0) :
    exec (.hostWrite unitValid sector count) s =
      .next (sectorLoop writeSector unitValid sector count.toNat { s with sidx := 0 }) := by
  rw [← writeSectors_eq_sectorLoop]
  exact execHostWrite_accepted (transferCheck_ready hcount hn)

/-- FLAGS of a READY device (R33). -/
theorem flagsFor_ready {s : State} (hn : notInitialized s = false) : flagsFor unitValid s = 0x00 := by
  have hbit : ∀ x : Byte, x.getLsbD 0 = false → x &&& 0x01#8 = 0x00 := by decide
  exact (if_pos rfl).trans (hbit s.status hn)

/-- FLAGS of a NOT-INITIALIZED device (R33). -/
theorem flagsFor_notInit {s : State} (hn : notInitialized s = true) : flagsFor unitValid s = 0x01 := by
  have hbit : ∀ x : Byte, x.getLsbD 0 = true → x &&& 0x01#8 = 0x01 := by decide
  exact (if_pos rfl).trans (hbit s.status hn)

/-- READ of any request is turned away, or runs its sector loop. -/
theorem execHostRead_cases {unit : Byte} {sector count : Word} {s t : State}
    (ht : exec (.hostRead unit sector count) s = .next t) :
    (∃ e, t = raiseError e unit s) ∨ t = sectorLoop readSector unit sector count.toNat { s with sidx := 0 } := by
  cases hcheck : transferCheck unit count s with
  | some e => cases (execHostRead_rejected hcheck).symm.trans ht; exact .inl ⟨e, rfl⟩
  | none =>
    cases (execHostRead_accepted hcheck).symm.trans ht
    exact .inr (readSectors_eq_sectorLoop unit sector _ _)

/-- WRITE of any request is turned away, or runs its sector loop. -/
theorem execHostWrite_cases {unit : Byte} {sector count : Word} {s t : State}
    (ht : exec (.hostWrite unit sector count) s = .next t) :
    (∃ e, t = raiseError e unit s) ∨ t = sectorLoop writeSector unit sector count.toNat { s with sidx := 0 } := by
  cases hcheck : transferCheck unit count s with
  | some e => cases (execHostWrite_rejected hcheck).symm.trans ht; exact .inl ⟨e, rfl⟩
  | none =>
    cases (execHostWrite_accepted hcheck).symm.trans ht
    exact .inr (writeSectors_eq_sectorLoop unit sector _ _)

/-! ### The sector loop, one turn and by relations (R206, R214) -/

/-- The label `sector:` before a command: SECT is the index of the next sector (R65). -/
def atSector (sector : Word) (s : State) : State := { s with sect := sectorIndex sector s.sidx }

theorem sectorLoop_done {run : State → State} {unit : Byte} {sector : Word} {s : State}
    (h : (run (atSector sector s)).phase ≠ .xFail) (n : Nat) :
    sectorLoop run unit sector (n + 1) s = sectorLoop run unit sector n (run (atSector sector s)) :=
  if_neg h

theorem sectorLoop_failed {run : State → State} {unit : Byte} {sector : Word} {s : State}
    (h : (run (atSector sector s)).phase = .xFail) (n : Nat) :
    sectorLoop run unit sector (n + 1) s = errorExit .transferError unit (run (atSector sector s)) :=
  if_pos h

theorem errorExit_buf (e : ErrorKind) (unit : Byte) (s : State) : (errorExit e unit s).buf = s.buf := rfl

/-- A transitive relation that a sector and the loop's own updates respect holds from the start of a transfer to its end. -/
theorem sectorLoop_relates {R : State → State → Prop} {run : State → State} (htrans : ∀ s t u, R s t → R t u → R s u)
    (hsect : ∀ s w, R s { s with sect := w }) (hrun : ∀ s, R s (run s)) (hexit : ∀ e unit s, R s (errorExit e unit s))
    (hrespond : ∀ code value unit s, R s (respond code value unit s)) (unit : Byte) (sector : Word) (n : Nat) (s : State) :
    R s (sectorLoop run unit sector n s) := by
  induction n generalizing s with
  | zero => exact hrespond _ _ _ _
  | succ n ih =>
    have hsector := htrans _ _ _ (hsect s (sectorIndex sector s.sidx)) (hrun _)
    rw [sectorLoop]
    split
    · exact htrans _ _ _ hsector (hexit _ _ _)
    · exact htrans _ _ _ hsector (ih _)

/-! ### The parts of a sector -/

/-- A sector of READ after its CMD17 (R202). -/
def askRead (s : State) : State := runCmd17 (blockArg s.cfg.addrMode s.sect) s

/-- A sector of WRITE after its CMD24 (R208). -/
def askWrite (s : State) : State := runCmd24 (blockArg s.cfg.addrMode s.sect) s

theorem readSector_refused {s : State} (h : (askRead s).resp ≠ respReady) : readSector s = askRead s := if_neg h

theorem readSector_tokenless {s : State} (hr : (askRead s).resp = respReady) (h : (awaitToken (askRead s)).phase = .xFail) :
    readSector s = awaitToken (askRead s) :=
  (if_pos hr).trans (if_pos h)

theorem readSector_stored {s : State} (hr : (askRead s).resp = respReady) (h : (awaitToken (askRead s)).phase = .rdData) :
    readSector s = storeSector (awaitToken (askRead s)) :=
  (if_pos hr).trans (if_neg fun hfail => absurd (h.symm.trans hfail) (by decide))

theorem writeSector_refused {s : State} (h : (askWrite s).resp ≠ respReady) : writeSector s = askWrite s := if_neg h

theorem writeSector_rejected {s : State} (hr : (askWrite s).resp = respReady)
    (h : dataAccepted (rx (sendBlock (askWrite s))) = false) : writeSector s = answerBlock (askWrite s) :=
  (if_pos hr).trans (if_neg fun hd => absurd (h.symm.trans hd) (by decide))

theorem writeSector_stillBusy {s : State} (hr : (askWrite s).resp = respReady)
    (hd : dataAccepted (rx (sendBlock (askWrite s))) = true) (h : (awaitStored (answerBlock (askWrite s))).phase = .xFail) :
    writeSector s = awaitStored (answerBlock (askWrite s)) :=
  (if_pos hr).trans ((if_pos hd).trans (if_pos h))

theorem writeSector_written {s : State} (hr : (askWrite s).resp = respReady)
    (hd : dataAccepted (rx (sendBlock (askWrite s))) = true) (h : (awaitStored (answerBlock (askWrite s))).phase = .wrTrail) :
    writeSector s = closeWrite (awaitStored (answerBlock (askWrite s))) :=
  (if_pos hr).trans ((if_pos hd).trans (if_neg fun hfail => absurd (h.symm.trans hfail) (by decide)))

/-! ### What a transfer leaves unchanged -/

/-- The state with everything WRITE may write blanked: the scratch registers of a transfer, CS, PHASE, the response registers, and the
model's input position and log. -/
def writeKept (s : State) : State :=
  { s with phase := .idle, cs := 0, idx := 0, arg := 0, crc := 0, resp := 0, sect := 0, sidx := 0, bcnt := 0, pcnt := 0,
           code := 0, flags := 0, value := 0, card := [], xcount := 0, log := [] }

/-- READ may write the buffer as well. -/
def readKept (s : State) : State := { writeKept s with buf := [] }

/-- What WRITE keeps, READ keeps. -/
theorem readKept_of_writeKept {s t : State} (h : writeKept t = writeKept s) : readKept t = readKept s := by
  rw [readKept, readKept, h]

theorem writeKept_xchg (o : Byte) (s : State) : writeKept (xchg o s) = writeKept s := rfl

@[simp] theorem writeKept_runCmd17 (arg : Word) (s : State) : writeKept (runCmd17 arg s) = writeKept s := by
  rw [runCmd17, afterCmd17, command, sendCommand_frame]
  split <;> rfl

@[simp] theorem writeKept_awaitToken (s : State) : writeKept (awaitToken s) = writeKept s := by
  rw [awaitToken, tokenWait_frame]; rfl

theorem readKept_readPayload (n : Nat) (s : State) : readKept (readPayload n s) = readKept s := by
  rw [readPayload_frame]; rfl

theorem writeKept_deselect (s : State) : writeKept (deselect s) = writeKept s := rfl

theorem writeKept_closeRead (s : State) : writeKept (closeRead s) = writeKept s :=
  calc writeKept (closeRead s)
    _ = writeKept (deselect (xchg idleByte (xchg idleByte s))) := rfl
    _ = writeKept s := by rw [writeKept_deselect, writeKept_xchg, writeKept_xchg]

@[simp] theorem readKept_storeSector (s : State) : readKept (storeSector s) = readKept s := by
  rw [storeSector, readKept_of_writeKept (writeKept_closeRead _), readKept_readPayload]

@[simp] theorem writeKept_runCmd24 (arg : Word) (s : State) : writeKept (runCmd24 arg s) = writeKept s := by
  rw [runCmd24, command, sendCommand_frame]; rfl

theorem writeKept_writePayload (n : Nat) (s : State) : writeKept (writePayload n s) = writeKept s := by
  rw [writePayload_frame]; rfl

@[simp] theorem writeKept_sendBlock (s : State) : writeKept (sendBlock s) = writeKept s := by
  rw [sendBlock, writeKept_xchg, writeKept_xchg, writeKept_writePayload]; rfl

@[simp] theorem writeKept_answerBlock (s : State) : writeKept (answerBlock s) = writeKept s := by
  have hanswer (d : Byte) (t : State) : writeKept (afterDataResponse d (xchg idleByte t)) = writeKept t := by
    rw [afterDataResponse]; split <;> rfl
  exact (hanswer _ _).trans (writeKept_sendBlock s)

@[simp] theorem writeKept_awaitStored (s : State) : writeKept (awaitStored s) = writeKept s := by
  rw [awaitStored, busyWait_frame]; rfl

@[simp] theorem writeKept_closeWrite (s : State) : writeKept (closeWrite s) = writeKept s := rfl

theorem readKept_readSector (s : State) : readKept (readSector s) = readKept s := by
  rcases readSector_cases s with ⟨-, h⟩ | ⟨-, -, h⟩ | ⟨-, -, -, h⟩
  · exact readKept_of_writeKept (by simp [h])
  · exact readKept_of_writeKept (by simp [h])
  · rw [h, readKept_storeSector]
    exact readKept_of_writeKept (by simp)

theorem writeKept_writeSector (s : State) : writeKept (writeSector s) = writeKept s := by
  rcases writeSector_cases s with ⟨-, h⟩ | ⟨-, -, h⟩ | ⟨-, -, ⟨-, h⟩ | ⟨-, h⟩⟩ <;> simp [h]

theorem readSector_cfg (s : State) : (readSector s).cfg = s.cfg := congrArg (·.cfg) (readKept_readSector s)

theorem writeSector_cfg (s : State) : (writeSector s).cfg = s.cfg := congrArg (·.cfg) (writeKept_writeSector s)

theorem writeSector_buf (s : State) : (writeSector s).buf = s.buf := congrArg (·.buf) (writeKept_writeSector s)

theorem readKept_sectorLoop (unit : Byte) (sector : Word) (n : Nat) (s : State) :
    readKept (sectorLoop readSector unit sector n s) = readKept s :=
  sectorLoop_relates (R := fun s t => readKept t = readKept s) (fun _ _ _ h h' => h'.trans h) (fun _ _ => rfl)
    readKept_readSector (fun _ _ _ => rfl) (fun _ _ _ _ => rfl) unit sector n s

theorem writeKept_sectorLoop (unit : Byte) (sector : Word) (n : Nat) (s : State) :
    writeKept (sectorLoop writeSector unit sector n s) = writeKept s :=
  sectorLoop_relates (R := fun s t => writeKept t = writeKept s) (fun _ _ _ h h' => h'.trans h) (fun _ _ => rfl)
    writeKept_writeSector (fun _ _ _ => rfl) (fun _ _ _ _ => rfl) unit sector n s

theorem readSectors_kept (sector count : Word) (s : State) :
    readKept (sectorLoop readSector unitValid sector count.toNat { s with sidx := 0 }) = readKept s :=
  readKept_sectorLoop unitValid sector count.toNat { s with sidx := 0 }

theorem writeSectors_kept (sector count : Word) (s : State) :
    writeKept (sectorLoop writeSector unitValid sector count.toNat { s with sidx := 0 }) = writeKept s :=
  writeKept_sectorLoop unitValid sector count.toNat { s with sidx := 0 }

theorem status_of_readKept {s t : State} (h : readKept t = readKept s) : t.status = s.status :=
  show (readKept t).status = (readKept s).status by rw [h]

theorem status_of_writeKept {s t : State} (h : writeKept t = writeKept s) : t.status = s.status :=
  status_of_readKept (readKept_of_writeKept h)

/-- The registers READ may write, said by the state it leaves. -/
theorem eq_of_readKept {s t : State} (h : readKept t = readKept s) :
    t = { s with idx := t.idx, arg := t.arg, crc := t.crc, resp := t.resp, sect := t.sect, sidx := t.sidx, bcnt := t.bcnt,
                 pcnt := t.pcnt, cs := t.cs, phase := t.phase, code := t.code, flags := t.flags, value := t.value,
                 buf := t.buf, card := t.card, xcount := t.xcount, log := t.log } :=
  calc t = { readKept t with idx := t.idx, arg := t.arg, crc := t.crc, resp := t.resp, sect := t.sect, sidx := t.sidx,
                             bcnt := t.bcnt, pcnt := t.pcnt, cs := t.cs, phase := t.phase, code := t.code, flags := t.flags,
                             value := t.value, buf := t.buf, card := t.card, xcount := t.xcount, log := t.log } := rfl
    _ = _ := by rw [h]; rfl

/-- The registers WRITE may write, said by the state it leaves. -/
theorem eq_of_writeKept {s t : State} (h : writeKept t = writeKept s) :
    t = { s with idx := t.idx, arg := t.arg, crc := t.crc, resp := t.resp, sect := t.sect, sidx := t.sidx, bcnt := t.bcnt,
                 pcnt := t.pcnt, cs := t.cs, phase := t.phase, code := t.code, flags := t.flags, value := t.value,
                 card := t.card, xcount := t.xcount, log := t.log } :=
  calc t = { writeKept t with idx := t.idx, arg := t.arg, crc := t.crc, resp := t.resp, sect := t.sect, sidx := t.sidx,
                              bcnt := t.bcnt, pcnt := t.pcnt, cs := t.cs, phase := t.phase, code := t.code, flags := t.flags,
                              value := t.value, card := t.card, xcount := t.xcount, log := t.log } := rfl
    _ = _ := by rw [h]; rfl

/-! ### How a transfer ends (R200, R207, R215) -/

/-- What the sector loop relies on of what it runs for one sector: SIDX counts a sector that is done, which ends with `Deselect`, and
not one that fails. -/
structure CountsSectors (run : State → State) : Prop where
  done_sidx : ∀ s, (run s).phase ≠ .xFail → (run s).sidx = s.sidx + 1
  done_cs : ∀ s, (run s).phase ≠ .xFail → (run s).cs = 1
  failed_sidx : ∀ s, (run s).phase = .xFail → (run s).sidx = s.sidx

theorem readSector_counts : CountsSectors readSector where
  done_sidx _ h := readSector_sidx h
  done_cs _ h := readSector_cs h
  failed_sidx s hfail := by
    rcases readSector_cases s with ⟨-, h⟩ | ⟨-, -, h⟩ | ⟨-, -, -, h⟩
    · rw [h, runCmd17_sidx]
    · rw [h, awaitToken_sidx, runCmd17_sidx]
    · rw [h, storeSector_phase] at hfail
      cases hfail

theorem writeSector_counts : CountsSectors writeSector where
  done_sidx _ h := writeSector_sidx h
  done_cs _ h := writeSector_cs h
  failed_sidx s hfail := by
    rcases writeSector_cases s with ⟨-, h⟩ | ⟨-, -, h⟩ | ⟨-, -, ⟨-, h⟩ | ⟨-, h⟩⟩
    · rw [h, runCmd24_sidx]
    · rw [h, answerBlock_sidx, runCmd24_sidx]
    · rw [h, awaitStored_sidx, answerBlock_sidx, runCmd24_sidx]
    · rw [h, closeWrite_phase] at hfail
      cases hfail

/-- The end of a transfer of `total` sectors: in IDLE, deselected, with RES_OK exactly when all sectors were done. -/
structure Ended (unit : Byte) (total : Nat) (t : State) : Prop where
  rested : Rested t
  value : t.value = 0
  flags : t.flags = flagsFor unit t
  code : t.code = resOk ∧ t.sidx = total ∨ t.code = resError ∧ t.sidx < total

theorem Ended.ok {unit : Byte} {total : Nat} {t : State} (h : Ended unit total t) (hall : t.sidx = total) : t.code = resOk :=
  h.code.elim And.left fun hbad => absurd hall hbad.2.ne

theorem Ended.failed {unit : Byte} {total : Nat} {t : State} (h : Ended unit total t) (hfew : t.sidx < total) : t.code = resError :=
  h.code.elim (fun hok => absurd hok.2 hfew.ne) And.left

/-- The line is high at the end if it was high at the start or there was a sector to do. -/
theorem sectorLoop_ended {run : State → State} (hrun : CountsSectors run) (unit : Byte) (sector : Word) (n : Nat) {s : State}
    (hcs : n ≠ 0 ∨ s.cs = 1) : Ended unit (s.sidx + n) (sectorLoop run unit sector n s) := by
  induction n generalizing s with
  | zero => exact ⟨respond_rested (hcs.resolve_left (not_not.mpr rfl)) _ _ _, rfl, rfl, .inl ⟨rfl, rfl⟩⟩
  | succ n ih =>
    by_cases hfail : (run (atSector sector s)).phase = .xFail
    · rw [sectorLoop_failed hfail]
      exact ⟨errorExit_rested _ _ _, rfl, rfl,
        .inr ⟨rfl, (hrun.failed_sidx _ hfail).trans_lt (Nat.lt_add_of_pos_right n.succ_pos)⟩⟩
    · have hrest := ih (.inr (hrun.done_cs _ hfail))
      rw [hrun.done_sidx _ hfail, Nat.succ_add_eq_add_succ] at hrest
      rwa [sectorLoop_done hfail]

/-- The sectors of a request that passed its pre-checks. -/
theorem sectors_ended {run : State → State} (hrun : CountsSectors run) {count : Word} (hcount : count ≠ 0) (sector : Word)
    (s : State) : Ended unitValid count.toNat (sectorLoop run unitValid sector count.toNat { s with sidx := 0 }) := by
  have hend := sectorLoop_ended hrun unitValid sector count.toNat (s := { s with sidx := 0 })
    (.inl fun h0 => hcount (BitVec.eq_of_toNat_eq h0))
  rwa [Nat.zero_add] at hend

theorem Ended.flags_ready {total : Nat} {s t : State} (h : Ended unitValid total t) (hstatus : t.status = s.status)
    (hn : notInitialized s = false) : t.flags = 0x00 :=
  h.flags.trans (flagsFor_ready (by rw [notInitialized, hstatus]; exact hn))

/-! ### The buffer bytes READ may store (R204, R257) -/

theorem bufOffset_zero (i : Nat) : bufOffset i 0 = i * 512 := by rw [bufOffset, sectorBytes, Nat.add_zero]

theorem bufOffset_succ (i : Nat) : bufOffset (i + 1) 0 = bufOffset i 0 + sectorBytes := by
  simp only [bufOffset, Nat.succ_mul, Nat.add_zero]

theorem bufOffset_lt_succ {i j : Nat} (hj : j < sectorBytes) : bufOffset i j < bufOffset (i + 1) 0 := by
  rw [bufOffset_succ, bufOffset, bufOffset, Nat.add_zero]
  exact Nat.add_lt_add_left hj _

theorem bufOffset_le {i k : Nat} (h : i ≤ k) (j : Nat) : bufOffset i j ≤ bufOffset k j :=
  Nat.add_le_add_right (Nat.mul_le_mul_right sectorBytes h) j

/-- From `s` to `t` only bytes of the sectors SIDX has counted since may change. -/
structure StoresCounted (s t : State) : Prop where
  counted : s.sidx ≤ t.sidx
  wf : s.buf.wf = true → t.buf.wf = true
  other : ∀ off, off < bufOffset s.sidx 0 ∨ bufOffset t.sidx 0 ≤ off → t.buf.read off = s.buf.read off

theorem StoresCounted.of_eq {s t : State} (hsidx : t.sidx = s.sidx) (hbuf : t.buf = s.buf) : StoresCounted s t :=
  ⟨hsidx.ge, fun h => hbuf ▸ h, fun _ _ => by rw [hbuf]⟩

theorem StoresCounted.trans {s t u : State} (h : StoresCounted s t) (h' : StoresCounted t u) : StoresCounted s u := by
  have hst : bufOffset s.sidx 0 ≤ bufOffset t.sidx 0 := bufOffset_le h.counted 0
  have htu : bufOffset t.sidx 0 ≤ bufOffset u.sidx 0 := bufOffset_le h'.counted 0
  refine ⟨h.counted.trans h'.counted, fun hw => h'.wf (h.wf hw), fun off hoff => ?_⟩
  rw [h'.other off (by omega), h.other off (by omega)]

@[simp] theorem runCmd17_buf (arg : Word) (s : State) : (runCmd17 arg s).buf = s.buf :=
  show (writeKept (runCmd17 arg s)).buf = (writeKept s).buf by rw [writeKept_runCmd17]

@[simp] theorem awaitToken_buf (s : State) : (awaitToken s).buf = s.buf :=
  show (writeKept (awaitToken s)).buf = (writeKept s).buf by rw [writeKept_awaitToken]

theorem closeRead_buf (s : State) : (closeRead s).buf = s.buf := rfl

theorem storeSector_buf (s : State) : (storeSector s).buf = (readPayload sectorBytes s).buf := closeRead_buf _

/-- The payload of a sector goes to that sector's bytes. -/
theorem storeSector_stores {s : State} (hb : s.bcnt = 0) : StoresCounted s (storeSector s) := by
  refine ⟨(Nat.le_succ _).trans (storeSector_sidx s).ge, fun h => ?_, fun off hoff => ?_⟩
  · rw [storeSector_buf]
    exact readPayload_wf sectorBytes s h
  · rw [storeSector_sidx, bufOffset_succ, ← hb] at hoff
    rw [storeSector_buf]
    exact readPayload_other sectorBytes s off hoff

theorem readSector_stores (s : State) : StoresCounted s (readSector s) := by
  rcases readSector_cases s with ⟨-, h⟩ | ⟨-, -, h⟩ | ⟨-, -, hb, h⟩ <;> rw [h]
  · exact .of_eq (runCmd17_sidx _ s) (runCmd17_buf _ s)
  · exact .of_eq (by rw [awaitToken_sidx, runCmd17_sidx]) (by simp)
  · exact (StoresCounted.of_eq (by rw [awaitToken_sidx, runCmd17_sidx]) (by simp)).trans (storeSector_stores hb)

theorem sectorLoop_stores (unit : Byte) (sector : Word) (n : Nat) (s : State) :
    StoresCounted s (sectorLoop readSector unit sector n s) :=
  sectorLoop_relates (R := StoresCounted) (fun _ _ _ => StoresCounted.trans) (fun _ _ => .of_eq rfl rfl) readSector_stores
    (fun _ _ _ => .of_eq rfl rfl) (fun _ _ _ _ => .of_eq rfl rfl) unit sector n s

/-! ### The exchanges of a transfer (R216) -/

/-- A command answered `0x00` is no timeout, which spares its last exchange. -/
theorem command_xcount_of_ready {index : BitVec 6} (hi : index ≠ idxGoIdle) (arg : Word) {s : State}
    (h : (command index arg s).resp = respReady) : (command index arg s).xcount ≤ s.xcount + 7 + s.cfg.nResp := by
  have hx := command_xcount_of_answer index arg (s := s) (by rw [h]; rfl)
  rwa [pollBound, if_neg hi] at hx

theorem runCmd17_xcount (arg : Word) (s : State) : (runCmd17 arg s).xcount = (command idxReadBlock arg s).xcount := by
  rw [runCmd17, afterCmd17]; split <;> rfl

theorem runCmd17_resp (arg : Word) (s : State) : (runCmd17 arg s).resp = (command idxReadBlock arg s).resp := by
  rw [runCmd17, afterCmd17]; split <;> rfl

@[simp] theorem runCmd17_cfg (arg : Word) (s : State) : (runCmd17 arg s).cfg = s.cfg :=
  show (writeKept (runCmd17 arg s)).cfg = (writeKept s).cfg by rw [writeKept_runCmd17]

@[simp] theorem runCmd24_cfg (arg : Word) (s : State) : (runCmd24 arg s).cfg = s.cfg := command_cfg idxWriteBlock arg s

@[simp] theorem answerBlock_cfg (s : State) : (answerBlock s).cfg = s.cfg :=
  show (writeKept (answerBlock s)).cfg = (writeKept s).cfg by rw [writeKept_answerBlock]

theorem awaitToken_xcount (s : State) : (awaitToken s).xcount ≤ s.xcount + s.cfg.nToken := tokenWait_xcount _ s

/-- 512 payload bytes, two CRC bytes and the idle byte of `Deselect`. -/
theorem storeSector_xcount (s : State) : (storeSector s).xcount = s.xcount + 515 := by
  rw [storeSector, readPayload_frame]; rfl

/-- The token, 512 payload bytes, two CRC bytes and the data response. -/
theorem answerBlock_xcount (s : State) : (answerBlock s).xcount = s.xcount + 516 := by
  have hanswer (d : Byte) (t : State) : (afterDataResponse d (xchg idleByte t)).xcount = t.xcount + 1 := by
    rw [afterDataResponse]; split <;> rfl
  rw [answerBlock, hanswer, sendBlock, writePayload_frame]
  simp [sectorBytes]

theorem awaitStored_xcount (s : State) : (awaitStored s).xcount ≤ s.xcount + s.cfg.nBusy := busyWait_xcount _ s

theorem closeWrite_xcount (s : State) : (closeWrite s).xcount = s.xcount + 2 := rfl

/-- One exchange of the bound is left for the `Deselect` of the error exit. -/
theorem readSector_xcount (s : State) :
    (readSector s).xcount + 1 ≤ s.xcount + (8 + s.cfg.nResp + s.cfg.nToken + 515) := by
  have hcmd : (runCmd17 (blockArg s.cfg.addrMode s.sect) s).xcount ≤ s.xcount + 8 + s.cfg.nResp :=
    (runCmd17_xcount _ s).trans_le (command_xcount_le idxReadBlock _ s)
  have hready (hr : (runCmd17 (blockArg s.cfg.addrMode s.sect) s).resp = respReady) :
      (awaitToken (runCmd17 (blockArg s.cfg.addrMode s.sect) s)).xcount ≤ s.xcount + 7 + s.cfg.nResp + s.cfg.nToken := by
    have htoken := awaitToken_xcount (runCmd17 (blockArg s.cfg.addrMode s.sect) s)
    rw [runCmd17_resp] at hr
    rw [runCmd17_cfg, runCmd17_xcount] at htoken
    exact htoken.trans (Nat.add_le_add_right (command_xcount_of_ready (by decide) _ hr) _)
  rcases readSector_cases s with ⟨-, h⟩ | ⟨hr, -, h⟩ | ⟨hr, -, -, h⟩ <;> rw [h]
  · omega
  · have := hready hr
    omega
  · have := hready hr
    rw [storeSector_xcount]
    omega

theorem writeSector_xcount (s : State) :
    (writeSector s).xcount + 1 ≤ s.xcount + (8 + s.cfg.nResp + s.cfg.nBusy + 518) := by
  have hcmd : (runCmd24 (blockArg s.cfg.addrMode s.sect) s).xcount ≤ s.xcount + 8 + s.cfg.nResp :=
    command_xcount_le idxWriteBlock _ s
  have hblock := answerBlock_xcount (runCmd24 (blockArg s.cfg.addrMode s.sect) s)
  have hstored := awaitStored_xcount (answerBlock (runCmd24 (blockArg s.cfg.addrMode s.sect) s))
  rw [answerBlock_cfg, runCmd24_cfg] at hstored
  have hready (hp : (runCmd24 (blockArg s.cfg.addrMode s.sect) s).phase = .wrToken) :
      (runCmd24 (blockArg s.cfg.addrMode s.sect) s).xcount ≤ s.xcount + 7 + s.cfg.nResp := by
    rw [runCmd24_phase] at hp
    split at hp
    · exact command_xcount_of_ready (index := idxWriteBlock) (by decide) _ ‹_›
    · cases hp
  rcases writeSector_cases s with ⟨-, h⟩ | ⟨-, -, h⟩ | ⟨hp, -, ⟨-, h⟩ | ⟨-, h⟩⟩ <;> rw [h]
  · omega
  · omega
  · omega
  · have := hready hp
    rw [closeWrite_xcount]
    omega

theorem sectorLoop_xcount {run : State → State} {c : Config} {bound : Nat} (hcfg : ∀ s, (run s).cfg = s.cfg)
    (hrun : ∀ s, s.cfg = c → (run s).xcount + 1 ≤ s.xcount + bound) (unit : Byte) (sector : Word) (n : Nat) {s : State}
    (hs : s.cfg = c) : (sectorLoop run unit sector n s).xcount ≤ s.xcount + n * bound := by
  induction n generalizing s with
  | zero => exact Nat.le_add_right _ _
  | succ n ih =>
    have hsector : (run (atSector sector s)).xcount + 1 ≤ s.xcount + bound := hrun _ hs
    rw [Nat.succ_mul]
    by_cases hfail : (run (atSector sector s)).phase = .xFail
    · rw [sectorLoop_failed hfail]
      exact hsector.trans (by omega)
    · have hrest := ih (s := run (atSector sector s)) ((hcfg _).trans hs)
      rw [sectorLoop_done hfail]
      omega

/-! ### CMD17 and CMD24 on a card's reply (R202, R208) -/

theorem runCmd17_heard {arg : Word} {reply : Reply} {rest : List Byte} {s : State} (hg : reply.good s.cfg.nResp = true)
    (h : s.card = reply.bytes ++ rest) :
    runCmd17 arg s =
      if reply.returned = respReady then
        { afterReply idxReadBlock arg reply rest s with
          pcnt := 0, phase := if 0 < s.cfg.nToken then .rdToken else .xFail }
      else { afterReply idxReadBlock arg reply rest s with phase := .xFail } := by
  rw [runCmd17, command_heard (index := idxReadBlock) (by decide) hg h]; rfl

theorem runCmd24_heard {arg : Word} {reply : Reply} {rest : List Byte} {s : State} (hg : reply.good s.cfg.nResp = true)
    (h : s.card = reply.bytes ++ rest) :
    runCmd24 arg s = { afterReply idxWriteBlock arg reply rest s with
      phase := if reply.returned = respReady then .wrToken else .xFail } := by
  rw [runCmd24, command_heard (index := idxWriteBlock) (by decide) hg h]; rfl

/-! ### How far a transfer has come on a scripted card -/

/-- From `s` to `u`: `k` sectors are done, the events `evs` are added, and the card has not yet sent `rest`. -/
structure Progress (k : Nat) (evs : List Event) (rest : List Byte) (s u : State) : Prop where
  cfg : u.cfg = s.cfg
  sidx : u.sidx = s.sidx + k
  card : u.card = rest
  log : u.log = evs.reverse ++ s.log

section progress
variable {k l : Nat} {evs evs' : List Event} {rest rest' : List Byte} {s t u : State}

theorem Progress.trans (h : Progress k evs rest s t) (h' : Progress l evs' rest' t u) :
    Progress (k + l) (evs ++ evs') rest' s u :=
  ⟨h'.cfg.trans h.cfg, by rw [h'.sidx, h.sidx, Nat.add_assoc], h'.card,
    by rw [h'.log, h.log, List.reverse_append, List.append_assoc]⟩

theorem Progress.refl (h : s.card = rest) : Progress 0 [] rest s s := ⟨rfl, rfl, h, rfl⟩

theorem progress_xchg {b : Byte} (h : s.card = b :: rest) (o : Byte) : Progress 0 [.x o b] rest s (xchg o s) :=
  ⟨rfl, rfl, by rw [xchg_card, h, List.tail_cons], by rw [xchg_log, rx_cons h]; rfl⟩

theorem progress_deselect {b : Byte} (h : s.card = b :: rest) : Progress 0 (deselectEvents b) rest s (deselect s) :=
  ⟨rfl, rfl, by rw [deselect_spec, h, List.tail_cons], by rw [deselect_spec, rx_cons h]; rfl⟩

theorem Progress.toSector (h : Progress k evs rest s u) (sector : Word) : Progress k evs rest s (atSector sector u) :=
  ⟨h.cfg, h.sidx, h.card, h.log⟩

theorem progress_errorExit {b : Byte} (h : s.card = b :: rest) (e : ErrorKind) (unit : Byte) :
    Progress 0 (deselectEvents b) rest s (errorExit e unit s) :=
  have hd := progress_deselect h
  ⟨hd.cfg, hd.sidx, hd.card, hd.log⟩

theorem progress_waitOnce {b : Byte} (h : s.card = b :: rest) : Progress 0 [.x idleByte b] rest s (waitOnce s) :=
  have hx := progress_xchg h idleByte
  ⟨hx.cfg, hx.sidx, hx.card, hx.log⟩

/-! ### The parts of a sector of READ (R202 to R205) -/

theorem progress_askRead {reply : Reply} {sector : Word} (hg : reply.good s.cfg.nResp = true)
    (hsect : s.sect = sectorIndex sector s.sidx) (h : s.card = reply.bytes ++ rest) :
    (askRead s).resp = reply.returned ∧
      Progress 0 (reply.trace (sectorFrame idxReadBlock s.cfg sector s.sidx)) rest s (askRead s) := by
  rw [askRead, runCmd17_heard hg h, hsect]
  split <;> exact ⟨rfl, rfl, rfl, rfl, rfl⟩

/-- Fillers take one poll each (R101). -/
theorem tokenWait_fillers {fil : List Byte} (hfil : fil.all (· == tokenFiller) = true) (h : s.card = fil ++ rest) (m : Nat) :
    ∃ u, tokenWait (fil.length + m) s = tokenWait m u ∧ Progress 0 (listen fil) rest s u := by
  induction fil generalizing s with
  | nil => exact ⟨s, by rw [List.length_nil, Nat.zero_add], .refl h⟩
  | cons b fil ih =>
    simp only [List.all_cons, Bool.and_eq_true, beq_iff_eq] at hfil
    obtain ⟨rfl, hfil⟩ := hfil
    have hx : rx s = tokenFiller := rx_cons h
    have hwait := progress_waitOnce (rest := fil ++ rest) h
    obtain ⟨u, hu, hprog⟩ := ih hfil hwait.card
    refine ⟨u, ?_, hwait.trans hprog⟩
    rw [List.length_cons, Nat.add_right_comm, tokenWait, hx, if_neg (by decide), if_pos rfl, hu]

/-- The start token within the bound. -/
theorem progress_token {fil : List Byte} (hfil : fil.all (· == tokenFiller) = true) (hlen : fil.length < s.cfg.nToken)
    (h : s.card = fil ++ tokenStart :: rest) :
    (awaitToken s).phase = .rdData ∧ (awaitToken s).bcnt = 0 ∧
      Progress 0 (listen fil ++ listen [tokenStart]) rest s (awaitToken s) := by
  obtain ⟨m, hm⟩ := Nat.exists_eq_add_of_lt hlen
  obtain ⟨u, hu, hprog⟩ := tokenWait_fillers hfil h (m + 1)
  have hlast := hprog.trans (progress_waitOnce hprog.card)
  rw [awaitToken, hm, Nat.add_assoc, hu, tokenWait, if_pos (rx_cons hprog.card)]
  exact ⟨rfl, rfl, hlast.cfg, hlast.sidx, hlast.card, hlast.log⟩

/-- Another byte than filler and start token. -/
theorem progress_badToken {fil : List Byte} {b : Byte} (hfil : fil.all (· == tokenFiller) = true)
    (hlen : fil.length < s.cfg.nToken) (hstart : b ≠ tokenStart) (hfill : b ≠ tokenFiller) (h : s.card = fil ++ b :: rest) :
    (awaitToken s).phase = .xFail ∧ Progress 0 (listen fil ++ listen [b]) rest s (awaitToken s) := by
  obtain ⟨m, hm⟩ := Nat.exists_eq_add_of_lt hlen
  obtain ⟨u, hu, hprog⟩ := tokenWait_fillers hfil h (m + 1)
  have hlast := hprog.trans (progress_waitOnce hprog.card)
  rw [awaitToken, hm, Nat.add_assoc, hu, tokenWait, rx_cons hprog.card, if_neg hstart, if_neg hfill]
  exact ⟨rfl, hlast.cfg, hlast.sidx, hlast.card, hlast.log⟩

/-- Fillers up to the bound. -/
theorem progress_noToken {fil : List Byte} (hfil : fil.all (· == tokenFiller) = true) (hlen : fil.length = s.cfg.nToken)
    (h : s.card = fil ++ rest) :
    (awaitToken s).phase = .xFail ∧ Progress 0 (listen fil) rest s (awaitToken s) := by
  obtain ⟨u, hu, hprog⟩ := tokenWait_fillers hfil h 0
  rw [awaitToken, ← hlen, ← Nat.add_zero fil.length, hu]
  exact ⟨rfl, hprog.cfg, hprog.sidx, hprog.card, hprog.log⟩

/-- The CRC bytes and `Deselect` (R205). -/
theorem progress_closeRead {crc : List Byte} {last : Byte} (hcrc : crc.length = 2) (h : s.card = crc ++ last :: rest) :
    Progress 1 (listen crc ++ deselectEvents last) rest s (closeRead s) := by
  match crc, hcrc with
  | [c0, c1], _ =>
    have h0 := progress_xchg h idleByte
    have h1 := progress_xchg h0.card idleByte
    have hall := (h0.trans h1).trans (progress_deselect h1.card)
    exact ⟨hall.cfg, congrArg (· + 1) hall.sidx, hall.card, hall.log⟩

/-- The payload, stored byte by byte, and the end of the sector (R204, R205). -/
theorem progress_storeSector {payload crc : List Byte} {last : Byte} (hb : s.bcnt = 0) (hw : s.buf.wf = true)
    (hlen : payload.length = sectorBytes) (hcrc : crc.length = 2) (h : s.card = payload ++ (crc ++ last :: rest)) :
    Progress 1 (storeEvents s.sidx 0 payload ++ (listen crc ++ deselectEvents last)) rest s (storeSector s) ∧
      ∀ j v, payload[j]? = some v → (storeSector s).buf.read (bufOffset s.sidx j) = v := by
  obtain ⟨hcard, hlog, hstored⟩ := readPayload_heard payload (crc ++ last :: rest) s h hw
  rw [hlen] at hcard hlog hstored
  rw [hb] at hlog hstored
  have hpayload : Progress 0 (storeEvents s.sidx 0 payload) (crc ++ last :: rest) s (readPayload sectorBytes s) :=
    ⟨by rw [readPayload_frame], by rw [readPayload_frame]; rfl, hcard, hlog⟩
  refine ⟨?_, fun j v hj => ?_⟩
  · rw [storeSector]
    exact hpayload.trans (progress_closeRead hcrc hpayload.card)
  · rw [storeSector_buf]
    simpa only [Nat.zero_add] using hstored j v hj

/-! ### A sector of READ (R206) -/

theorem ReadAnswer.good_iff {c : Config} {a : ReadAnswer} : a.good c = true ↔
    a.cmd.good c.nResp = true ∧ a.cmd.returned = respReady ∧ a.fillers.all (· == tokenFiller) = true ∧
      a.fillers.length < c.nToken ∧ a.payload.length = sectorBytes ∧ a.crc.length = 2 := by
  simp [ReadAnswer.good, and_assoc]

/-- A sector read from a card that answers well. -/
theorem progress_readSector {a : ReadAnswer} {sector : Word} (ha : a.good s.cfg = true)
    (hsect : s.sect = sectorIndex sector s.sidx) (hw : s.buf.wf = true) (h : s.card = a.bytes ++ rest) :
    (readSector s).phase ≠ .xFail ∧ Progress 1 (a.trace s.cfg sector s.sidx) rest s (readSector s) ∧
      ∀ j v, a.payload[j]? = some v → (readSector s).buf.read (bufOffset s.sidx j) = v := by
  obtain ⟨hg, hready, hfil, hlen, hpayload, hcrc⟩ := ReadAnswer.good_iff.mp ha
  obtain ⟨hresp, hcmd⟩ := progress_askRead (rest := a.fillers ++ tokenStart :: (a.payload ++ (a.crc ++ a.last :: rest))) hg hsect
    (h.trans (by simp [ReadAnswer.bytes]))
  obtain ⟨hphase, hb, htoken⟩ := progress_token hfil (by rwa [hcmd.cfg]) hcmd.card
  have hreach := hcmd.trans htoken
  have hbuf : (awaitToken (askRead s)).buf = s.buf := (awaitToken_buf _).trans (runCmd17_buf _ s)
  obtain ⟨hstore, hstored⟩ := progress_storeSector hb (by rwa [hbuf]) hpayload hcrc htoken.card
  have hsidx : (awaitToken (askRead s)).sidx = s.sidx := hreach.sidx
  rw [hsidx] at hstore hstored
  rw [readSector_stored (hresp.trans hready) hphase]
  refine ⟨by rw [storeSector_phase]; decide, ?_, hstored⟩
  simpa only [ReadAnswer.trace, List.append_assoc] using hreach.trans hstore

/-- A sector whose read fails. -/
theorem progress_readSector_fails {bad : ReadFailure} {sector : Word} (hbad : bad.good s.cfg = true)
    (hsect : s.sect = sectorIndex sector s.sidx) (h : s.card = bad.bytes ++ rest) :
    (readSector s).phase = .xFail ∧
      Progress 0 (bad.trace (sectorFrame idxReadBlock s.cfg sector s.sidx)) rest s (readSector s) := by
  cases bad with
  | refused cmd =>
    simp only [ReadFailure.good, Bool.and_eq_true, bne_iff_ne] at hbad
    obtain ⟨hg, hrefused⟩ := hbad
    obtain ⟨hresp, hcmd⟩ := progress_askRead hg hsect h
    rw [readSector_refused (by rwa [hresp])]
    exact ⟨runCmd17_phase_of_refused (by rwa [← hresp] at hrefused), hcmd⟩
  | badToken cmd fil b =>
    simp only [ReadFailure.good, Bool.and_eq_true, beq_iff_eq, bne_iff_ne, decide_eq_true_eq] at hbad
    obtain ⟨⟨⟨⟨⟨hg, hready⟩, hfil⟩, hlen⟩, hstart⟩, hfill⟩ := hbad
    obtain ⟨hresp, hcmd⟩ := progress_askRead (rest := fil ++ b :: rest) hg hsect (h.trans (by simp [ReadFailure.bytes]))
    obtain ⟨hphase, htoken⟩ := progress_badToken hfil (by rwa [hcmd.cfg]) hstart hfill hcmd.card
    rw [readSector_tokenless (hresp.trans hready) hphase]
    refine ⟨hphase, ?_⟩
    simpa only [ReadFailure.trace, List.append_assoc] using hcmd.trans htoken
  | noToken cmd fil =>
    simp only [ReadFailure.good, Bool.and_eq_true, beq_iff_eq] at hbad
    obtain ⟨⟨⟨hg, hready⟩, hfil⟩, hlen⟩ := hbad
    obtain ⟨hresp, hcmd⟩ := progress_askRead (rest := fil ++ rest) hg hsect (h.trans (by simp [ReadFailure.bytes]))
    obtain ⟨hphase, htoken⟩ := progress_noToken hfil (by rwa [hcmd.cfg]) hcmd.card
    rw [readSector_tokenless (hresp.trans hready) hphase]
    exact ⟨hphase, hcmd.trans htoken⟩

/-! ### The sectors of READ (R206) -/

/-- From `s` to `u` READ has read the sectors `as`, each stored at its place. -/
structure SectorsRead (sector : Word) (as : List ReadAnswer) (rest : List Byte) (s u : State) : Prop where
  progress : Progress as.length (readTrace s.cfg sector s.sidx as) rest s u
  stores : StoresCounted s u
  stored : ∀ i a, as[i]? = some a → ∀ j v, a.payload[j]? = some v → u.buf.read (bufOffset (s.sidx + i) j) = v

/-- Good sectors are read one by one; `m` are left. -/
theorem SectorsRead.loop {as : List ReadAnswer} (ha : as.all (ReadAnswer.good s.cfg) = true) (hw : s.buf.wf = true)
    (h : s.card = readBytes as ++ rest) (unit : Byte) (sector : Word) (m : Nat) :
    ∃ u, sectorLoop readSector unit sector (as.length + m) s = sectorLoop readSector unit sector m u ∧
      SectorsRead sector as rest s u := by
  induction as generalizing s with
  | nil => exact ⟨s, by rw [List.length_nil, Nat.zero_add], .refl h, .of_eq rfl rfl, by simp⟩
  | cons a as ih =>
    rw [List.all_cons, Bool.and_eq_true] at ha
    obtain ⟨ha, has⟩ := ha
    obtain ⟨hphase, hfirst, hstored⟩ := progress_readSector (s := atSector sector s)
      (rest := readBytes as ++ rest) ha rfl hw (h.trans (by simp [readBytes]))
    have hstores := readSector_stores (atSector sector s)
    obtain ⟨u, hu, hrest⟩ := ih (by rwa [hfirst.cfg]) (hstores.wf hw) hfirst.card
    refine ⟨u, ?_, ?_, ?_, ?_⟩
    · rw [List.length_cons, Nat.add_right_comm, sectorLoop_done hphase, hu]
    · have hall := hfirst.trans hrest.progress
      rw [hfirst.cfg, hfirst.sidx, Nat.add_comm] at hall
      exact ⟨hall.cfg, hall.sidx, hall.card, hall.log⟩
    · have hcur : StoresCounted s (atSector sector s) := .of_eq rfl rfl
      exact hcur.trans (hstores.trans hrest.stores)
    · intro i b hi j v hj
      cases i with
      | zero =>
        obtain rfl : a = b := by simpa using hi
        obtain ⟨-, -, -, -, hlen, -⟩ := ReadAnswer.good_iff.mp ha
        obtain ⟨hlt, -⟩ := List.getElem?_eq_some_iff.mp hj
        rw [hlen] at hlt
        rw [Nat.add_zero, hrest.stores.other _ (.inl (by rw [hfirst.sidx]; exact bufOffset_lt_succ hlt))]
        exact hstored j v hj
      | succ i =>
        have hlater := hrest.stored i b (by simpa using hi) j v hj
        rwa [hfirst.sidx, Nat.add_assoc, Nat.add_comm 1 i] at hlater

/-- A failing sector after good ones takes the error exit; no byte of the buffer is stored (R202, R203, R256). -/
theorem SectorsRead.fails {sector : Word} {as : List ReadAnswer} {bad : ReadFailure} {last : Byte} {rest : List Byte}
    {s u : State} (h : SectorsRead sector as (bad.bytes ++ last :: rest) s u) (hbad : bad.good s.cfg = true)
    (unit : Byte) (m : Nat) :
    Progress as.length (readTrace s.cfg sector s.sidx as ++
        (bad.trace (sectorFrame idxReadBlock s.cfg sector (s.sidx + as.length)) ++ deselectEvents last)) rest s
      (sectorLoop readSector unit sector (m + 1) u) ∧
      ∀ off, (sectorLoop readSector unit sector (m + 1) u).buf.read off = u.buf.read off := by
  have hcur := h.progress.toSector sector
  obtain ⟨hphase, hsector⟩ := progress_readSector_fails (sector := sector) (by rwa [hcur.cfg]) rfl hcur.card
  rw [hcur.cfg, hcur.sidx] at hsector
  rw [sectorLoop_failed hphase]
  have hall := hcur.trans (hsector.trans (progress_errorExit hsector.card .transferError unit))
  refine ⟨hall, fun off => ?_⟩
  rw [errorExit_buf]
  exact (readSector_stores (atSector sector u)).other off (by rw [hsector.sidx]; exact Nat.lt_or_ge _ _)

end progress

section writeProgress
variable {rest : List Byte} {s u : State}

/-! ### The parts of a sector of WRITE (R208 to R213) -/

theorem progress_askWrite {reply : Reply} {sector : Word} (hg : reply.good s.cfg.nResp = true)
    (hsect : s.sect = sectorIndex sector s.sidx) (h : s.card = reply.bytes ++ rest) :
    (askWrite s).resp = reply.returned ∧ (askWrite s).buf = s.buf ∧
      Progress 0 (reply.trace (sectorFrame idxWriteBlock s.cfg sector s.sidx)) rest s (askWrite s) := by
  rw [askWrite, runCmd24_heard hg h, hsect]
  exact ⟨rfl, rfl, rfl, rfl, rfl, rfl⟩

/-- The token, the payload read from the buffer and sent, and the dummy CRC (R209, R210). -/
theorem progress_sendBlock {token : Byte} {data crc : List Byte} (hlen : data.length = sectorBytes) (hcrc : crc.length = 2)
    (h : s.card = token :: (data ++ (crc ++ rest))) :
    Progress 0 ([.x tokenStart token] ++ (loadEvents s.buf s.sidx 0 data ++ crc.map (Event.x crcDataDummy))) rest s
      (sendBlock s) := by
  have htoken := progress_xchg h tokenStart
  obtain ⟨hcard, hlog⟩ := writePayload_heard data (crc ++ rest) { xchg tokenStart s with bcnt := 0 } htoken.card
  rw [hlen] at hcard hlog
  have hpayload : Progress 0 (loadEvents s.buf s.sidx 0 data) (crc ++ rest) (xchg tokenStart s)
      (writePayload sectorBytes { xchg tokenStart s with bcnt := 0 }) :=
    ⟨by rw [writePayload_frame], by rw [writePayload_frame]; rfl, hcard, hlog⟩
  match crc, hcrc with
  | [c0, c1], _ =>
    have h0 := progress_xchg hpayload.card crcDataDummy
    exact htoken.trans (hpayload.trans (h0.trans (progress_xchg h0.card crcDataDummy)))

theorem Progress.afterDataResponse {k : Nat} {evs : List Event} (h : Progress k evs rest s u) (d : Byte) :
    Progress k evs rest s (afterDataResponse d u) := by
  rw [Machine.afterDataResponse]
  split <;> exact ⟨h.cfg, h.sidx, h.card, h.log⟩

/-- The block and the data response (R211). -/
theorem progress_answerBlock {token response : Byte} {data crc : List Byte} (hlen : data.length = sectorBytes)
    (hcrc : crc.length = 2) (h : s.card = token :: (data ++ (crc ++ response :: rest))) :
    rx (sendBlock s) = response ∧
      Progress 0 ([.x tokenStart token] ++ (loadEvents s.buf s.sidx 0 data ++ crc.map (Event.x crcDataDummy)) ++
        listen [response]) rest s (answerBlock s) := by
  have hsend := progress_sendBlock hlen hcrc h
  exact ⟨rx_cons hsend.card, (hsend.trans (progress_xchg hsend.card idleByte)).afterDataResponse _⟩

/-- Busy bytes take one poll each (R100). -/
theorem busyWait_busy {busy : List Byte} (hbusy : busy.all (· != notBusy) = true) (h : s.card = busy ++ rest) (m : Nat) :
    ∃ u, busyWait (busy.length + m) s = busyWait m u ∧ Progress 0 (listen busy) rest s u := by
  induction busy generalizing s with
  | nil => exact ⟨s, by rw [List.length_nil, Nat.zero_add], .refl h⟩
  | cons b busy ih =>
    simp only [List.all_cons, Bool.and_eq_true, bne_iff_ne] at hbusy
    obtain ⟨hb, hbusy⟩ := hbusy
    have hwait := progress_waitOnce (rest := busy ++ rest) h
    obtain ⟨u, hu, hprog⟩ := ih (by simpa using hbusy) hwait.card
    refine ⟨u, ?_, hwait.trans hprog⟩
    rw [List.length_cons, Nat.add_right_comm, busyWait, if_neg (by rwa [rx_cons h]), hu]

/-- Not-busy within the bound. -/
theorem progress_stored {busy : List Byte} (hbusy : busy.all (· != notBusy) = true) (hlen : busy.length < s.cfg.nBusy)
    (h : s.card = busy ++ notBusy :: rest) :
    (awaitStored s).phase = .wrTrail ∧ Progress 0 (listen busy ++ listen [notBusy]) rest s (awaitStored s) := by
  obtain ⟨m, hm⟩ := Nat.exists_eq_add_of_lt hlen
  obtain ⟨u, hu, hprog⟩ := busyWait_busy hbusy h (m + 1)
  have hlast := hprog.trans (progress_waitOnce hprog.card)
  rw [awaitStored, hm, Nat.add_assoc, hu, busyWait, if_pos (rx_cons hprog.card)]
  exact ⟨rfl, hlast.cfg, hlast.sidx, hlast.card, hlast.log⟩

/-- Busy up to the bound. -/
theorem progress_stillBusy {busy : List Byte} (hbusy : busy.all (· != notBusy) = true) (hlen : busy.length = s.cfg.nBusy)
    (h : s.card = busy ++ rest) :
    (awaitStored s).phase = .xFail ∧ Progress 0 (listen busy) rest s (awaitStored s) := by
  obtain ⟨u, hu, hprog⟩ := busyWait_busy hbusy h 0
  rw [awaitStored, ← hlen, ← Nat.add_zero busy.length, hu]
  exact ⟨rfl, hprog.cfg, hprog.sidx, hprog.card, hprog.log⟩

/-- The trailing idle byte and `Deselect` (R213). -/
theorem progress_closeWrite {trail last : Byte} (h : s.card = trail :: last :: rest) :
    Progress 1 (listen [trail] ++ deselectEvents last) rest s (closeWrite s) := by
  have htrail := progress_xchg h idleByte
  have hall := htrail.trans (progress_deselect htrail.card)
  exact ⟨hall.cfg, congrArg (· + 1) hall.sidx, hall.card, hall.log⟩

/-! ### A sector of WRITE (R214) -/

theorem BlockAnswer.good_iff {c : Config} {a : BlockAnswer} : a.good c = true ↔
    a.cmd.good c.nResp = true ∧ a.cmd.returned = respReady ∧ a.data.length = sectorBytes ∧ a.crc.length = 2 := by
  simp [BlockAnswer.good, and_assoc]

theorem WriteAnswer.good_iff {c : Config} {a : WriteAnswer} : a.good c = true ↔
    a.block.good c = true ∧ dataAccepted a.block.response = true ∧ a.busy.all (· != notBusy) = true ∧
      a.busy.length < c.nBusy := by
  simp [WriteAnswer.good, and_assoc]

/-- The command and the block, up to the data response. -/
theorem progress_block {a : BlockAnswer} {sector : Word} (ha : a.good s.cfg = true)
    (hsect : s.sect = sectorIndex sector s.sidx) (h : s.card = a.bytes ++ rest) :
    (askWrite s).resp = respReady ∧ rx (sendBlock (askWrite s)) = a.response ∧
      Progress 0 (a.trace (sectorFrame idxWriteBlock s.cfg sector s.sidx) s.buf s.sidx) rest s
        (answerBlock (askWrite s)) := by
  obtain ⟨hg, hready, hlen, hcrc⟩ := BlockAnswer.good_iff.mp ha
  obtain ⟨hresp, hbuf, hcmd⟩ := progress_askWrite (rest := a.token :: (a.data ++ (a.crc ++ a.response :: rest))) hg hsect
    (h.trans (by simp [BlockAnswer.bytes]))
  obtain ⟨hrx, hblock⟩ := progress_answerBlock hlen hcrc hcmd.card
  rw [hbuf, hcmd.sidx] at hblock
  refine ⟨hresp.trans hready, hrx, ?_⟩
  simpa only [BlockAnswer.trace, List.append_assoc, Nat.add_zero] using hcmd.trans hblock

/-- A sector written to a card that answers well. -/
theorem progress_writeSector {a : WriteAnswer} {sector : Word} (ha : a.good s.cfg = true)
    (hsect : s.sect = sectorIndex sector s.sidx) (h : s.card = a.bytes ++ rest) :
    (writeSector s).phase ≠ .xFail ∧ Progress 1 (a.trace s.cfg sector s.buf s.sidx) rest s (writeSector s) := by
  obtain ⟨hb, haccepted, hbusy, hlen⟩ := WriteAnswer.good_iff.mp ha
  obtain ⟨hready, hrx, hblock⟩ := progress_block (rest := a.busy ++ notBusy :: a.trail :: a.last :: rest) hb hsect
    (h.trans (by simp [WriteAnswer.bytes]))
  obtain ⟨hphase, hstored⟩ := progress_stored hbusy (by rwa [hblock.cfg]) hblock.card
  rw [writeSector_written hready (by rw [hrx]; exact haccepted) hphase]
  refine ⟨by rw [closeWrite_phase]; decide, ?_⟩
  simpa [WriteAnswer.trace, listen] using (hblock.trans hstored).trans (progress_closeWrite hstored.card)

/-- A sector whose write fails. -/
theorem progress_writeSector_fails {bad : WriteFailure} {sector : Word} (hbad : bad.good s.cfg = true)
    (hsect : s.sect = sectorIndex sector s.sidx) (h : s.card = bad.bytes ++ rest) :
    (writeSector s).phase = .xFail ∧
      Progress 0 (bad.trace (sectorFrame idxWriteBlock s.cfg sector s.sidx) s.buf s.sidx) rest s (writeSector s) := by
  cases bad with
  | refused cmd =>
    simp only [WriteFailure.good, Bool.and_eq_true, bne_iff_ne] at hbad
    obtain ⟨hg, hrefused⟩ := hbad
    obtain ⟨hresp, -, hcmd⟩ := progress_askWrite hg hsect h
    rw [← hresp] at hrefused
    rw [writeSector_refused hrefused]
    exact ⟨(runCmd24_phase _ s).trans (if_neg hrefused), hcmd⟩
  | rejected b =>
    simp only [WriteFailure.good, Bool.and_eq_true, Bool.not_eq_true'] at hbad
    obtain ⟨hb, hrejected⟩ := hbad
    obtain ⟨hready, hrx, hblock⟩ := progress_block hb hsect h
    rw [← hrx] at hrejected
    rw [writeSector_rejected hready hrejected]
    refine ⟨?_, hblock⟩
    rw [answerBlock, afterDataResponse, hrejected]; rfl
  | stillBusy b busy =>
    simp only [WriteFailure.good, Bool.and_eq_true, beq_iff_eq] at hbad
    obtain ⟨⟨⟨hb, haccepted⟩, hbusy⟩, hlen⟩ := hbad
    obtain ⟨hready, hrx, hblock⟩ := progress_block (rest := busy ++ rest) hb hsect (h.trans (by simp [WriteFailure.bytes]))
    obtain ⟨hphase, hwait⟩ := progress_stillBusy hbusy (by rw [hblock.cfg]; exact hlen) hblock.card
    rw [writeSector_stillBusy hready (by rw [hrx]; exact haccepted) hphase]
    exact ⟨hphase, hblock.trans hwait⟩

/-! ### The sectors of WRITE (R214) -/

/-- Good sectors are written one by one; `m` are left. -/
theorem progress_writeSectors {as : List WriteAnswer} (ha : as.all (WriteAnswer.good s.cfg) = true)
    (h : s.card = writeBytes as ++ rest) (unit : Byte) (sector : Word) (m : Nat) :
    ∃ u, sectorLoop writeSector unit sector (as.length + m) s = sectorLoop writeSector unit sector m u ∧
      u.buf = s.buf ∧ Progress as.length (writeTrace s.cfg sector s.buf s.sidx as) rest s u := by
  induction as generalizing s with
  | nil => exact ⟨s, by rw [List.length_nil, Nat.zero_add], rfl, .refl h⟩
  | cons a as ih =>
    rw [List.all_cons, Bool.and_eq_true] at ha
    obtain ⟨ha, has⟩ := ha
    obtain ⟨hphase, hfirst⟩ := progress_writeSector (s := atSector sector s) (rest := writeBytes as ++ rest) ha rfl
      (h.trans (by simp [writeBytes]))
    have hbuf : (writeSector (atSector sector s)).buf = s.buf := writeSector_buf _
    obtain ⟨u, hu, hubuf, hrest⟩ := ih (by rwa [hfirst.cfg]) hfirst.card
    have hall := hfirst.trans hrest
    rw [hfirst.cfg, hfirst.sidx, hbuf, Nat.add_comm] at hall
    refine ⟨u, ?_, hubuf.trans hbuf, hall.cfg, hall.sidx, hall.card, hall.log⟩
    rw [List.length_cons, Nat.add_right_comm, sectorLoop_done hphase, hu]

/-- A failing sector after good ones takes the error exit (R256). -/
theorem Progress.writeSectors_fail {k : Nat} {evs : List Event} {bad : WriteFailure} {last : Byte}
    (h : Progress k evs (bad.bytes ++ last :: rest) s u) (hbuf : u.buf = s.buf) (hbad : bad.good s.cfg = true) (unit : Byte)
    (sector : Word) (m : Nat) :
    Progress k (evs ++ (bad.trace (sectorFrame idxWriteBlock s.cfg sector (s.sidx + k)) s.buf (s.sidx + k) ++
      deselectEvents last)) rest s (sectorLoop writeSector unit sector (m + 1) u) := by
  have hcur := h.toSector sector
  have hcurbuf : (atSector sector u).buf = s.buf := hbuf
  obtain ⟨hphase, hsector⟩ := progress_writeSector_fails (sector := sector) (by rwa [hcur.cfg]) rfl hcur.card
  rw [hcur.cfg, hcur.sidx, hcurbuf] at hsector
  rw [sectorLoop_failed hphase]
  exact hcur.trans (hsector.trans (progress_errorExit hsector.card .transferError unit))

end writeProgress

/-! ### What a card reads from WRITE's events (R217) -/

/-- The bytes of sector `i` in a buffer. -/
def sectorPayload (m : Memory) (i : Nat) : List Byte := (List.range' 0 sectorBytes).map fun j => m.read (bufOffset i j)

/-- The block of sector `i`, with the argument of its CMD24. -/
def sectorBlock (c : Config) (sector : Word) (m : Memory) (i : Nat) : Word × List Byte :=
  (blockArg c.addrMode (sectorIndex sector i), sectorPayload m i)

/-- A frame, idle bytes, the start token and a payload make a block. -/
theorem blockOf_frame (arg : Word) (n : Nat) {payload : List Byte} (more : List Byte) (hlen : payload.length = sectorBytes) :
    blockOf ((commandFrame idxWriteBlock arg).bytes ++ (List.replicate n idleByte ++ tokenStart :: (payload ++ more))) =
      some (arg, payload) := by
  have hbytes : (commandFrame idxWriteBlock arg).bytes =
      [0x58, wordByte3 arg, wordByte2 arg, wordByte1 arg, wordByte0 arg, crcFor idxWriteBlock] := by
    rw [Frame.bytes, commandFrame, show commandByte idxWriteBlock = 0x58 by decide]
  have hdrop : (List.replicate n idleByte ++ tokenStart :: (payload ++ more)).dropWhile (· == idleByte) =
      tokenStart :: (payload ++ more) := by
    rw [List.dropWhile_append_of_pos (by simp)]
    rfl
  rw [hbytes]
  simp only [List.cons_append, List.nil_append, blockOf, if_true, hdrop, wordOfBytes_wordBytes, ← hlen, List.take_left']

/-- A command answered `0x00` was answered, as the bytes of a timeout are fillers (R146). -/
theorem Reply.answered_of_ready {bound : Nat} {r : Reply} (hg : r.good bound = true) (hr : r.returned = respReady) :
    ∃ ign fil, r = .answered ign fil respReady ∧ ign.length = 7 := by
  cases r with
  | answered ign fil r =>
    obtain ⟨hign, -⟩ := Reply.good_answered_iff.mp hg
    exact ⟨ign, fil, by rw [show r = respReady from hr], hign⟩
  | silent ign fil last =>
    obtain ⟨-, hfil, -⟩ := Reply.good_silent_iff.mp hg
    have hlast : isFiller (fil.getLastD 0xFF) = true := by
      rw [List.getLastD_eq_getLast?]
      cases hb : fil.getLast? with
      | none => exact isFiller_ff
      | some b => exact List.all_eq_true.mp hfil b (List.mem_of_getLast? hb)
    rw [show fil.getLastD 0xFF = respReady from hr] at hlast
    exact absurd hlast (by decide)

/-- A command that is answered begins a selection: its frame, one idle byte per poll, and what follows until the line changes. -/
theorem selections_answered {ign : List Byte} (hign : ign.length = 7) (fil : List Byte) (r : Byte) (f : Frame) (es : List Event) :
    selections ((Reply.answered ign fil r).trace f ++ es) =
      (f.bytes ++ (List.replicate (fil ++ [r]).length idleByte ++ bytesUntilSel es)) :: selections es := by
  obtain ⟨resync, ins, rfl⟩ := List.exists_cons_of_length_eq_add_one hign
  have hlen : f.bytes.length = ins.length := (Nat.succ_injective hign).symm
  have hquiet : ∀ v, Event.sel v ∉ List.zipWith Event.x f.bytes ins ++ listen (fil ++ [r]) := by
    simp [← List.map_uncurry_zip_eq_zipWith, listen]
  calc selections ((Reply.answered (resync :: ins) fil r).trace f ++ es)
    _ = bytesUntilSel (List.zipWith Event.x f.bytes ins ++ (listen (fil ++ [r]) ++ es)) ::
          selections ((List.zipWith Event.x f.bytes ins ++ listen (fil ++ [r])) ++ es) := by
      simp [Reply.trace, Reply.ignored, Reply.polls, Reply.ending, selections, listen]
    _ = _ := by
      rw [bytesUntilSel_zip _ _ _ hlen, bytesUntilSel_listen, selections_append_of_no_sel _ _ hquiet]

theorem sel_not_mem_loadEvents (m : Memory) (i j : Nat) (bs : List Byte) (v : BitVec 1) :
    Event.sel v ∉ loadEvents m i j bs := by
  induction bs generalizing j with
  | nil => exact List.not_mem_nil
  | cons b bs ih => simp [loadEvents, ih]

/-- A written sector is one selection, in which the card is sent the sector's block. -/
theorem blocksSent_sector {c : Config} {a : WriteAnswer} (ha : a.good c = true) (sector : Word) (m : Memory) (i : Nat)
    (es : List Event) : blocksSent (a.trace c sector m i ++ es) = sectorBlock c sector m i :: blocksSent es := by
  obtain ⟨hb, -, -, -⟩ := WriteAnswer.good_iff.mp ha
  obtain ⟨hg, hready, hdata, -⟩ := BlockAnswer.good_iff.mp hb
  obtain ⟨ign, fil, hcmd, hign⟩ := Reply.answered_of_ready hg hready
  have hlen : (sectorPayload m i).length = sectorBytes := by rw [sectorPayload, List.length_map, List.length_range']
  have hquiet : ∀ v, Event.sel v ∉ Event.x tokenStart a.block.token :: (loadEvents m i 0 a.block.data ++
      (a.block.crc.map (Event.x crcDataDummy) ++ listen ([a.block.response] ++ a.busy ++ [notBusy, a.trail]))) := by
    simp [listen, sel_not_mem_loadEvents]
  have hbytes (tail : List Event) : bytesUntilSel (Event.x tokenStart a.block.token :: (loadEvents m i 0 a.block.data ++ tail)) =
      tokenStart :: (sectorPayload m i ++ bytesUntilSel tail) := by
    rw [bytesUntilSel, bytesUntilSel_loadEvents, hdata]; rfl
  have htrace : a.trace c sector m i ++ es = (Reply.answered ign fil respReady).trace (sectorFrame idxWriteBlock c sector i) ++
      (Event.x tokenStart a.block.token :: (loadEvents m i 0 a.block.data ++
      (a.block.crc.map (Event.x crcDataDummy) ++ listen ([a.block.response] ++ a.busy ++ [notBusy, a.trail]))) ++
        (deselectEvents a.last ++ es)) := by
    simp [WriteAnswer.trace, BlockAnswer.trace, hcmd, listen]
  rw [blocksSent, htrace, selections_answered hign, selections_append_of_no_sel _ _ hquiet, List.cons_append, List.append_assoc,
    hbytes, sectorFrame, List.filterMap_cons_some (blockOf_frame _ _ _ hlen)]
  rfl

theorem blocksSent_writeTrace {c : Config} {as : List WriteAnswer} (ha : as.all (WriteAnswer.good c) = true) (sector : Word)
    (m : Memory) (i : Nat) :
    blocksSent (writeTrace c sector m i as) = (List.range' i as.length).map (sectorBlock c sector m) := by
  induction as generalizing i with
  | nil => rfl
  | cons a as ih =>
    rw [List.all_cons, Bool.and_eq_true] at ha
    rw [writeTrace, blocksSent_sector ha.1, ih ha.2, List.length_cons, List.range'_succ, List.map_cons]

/-! ### The round trip (R217) -/

/-- An offset of the region is a byte of one of its sectors. -/
theorem exists_bufOffset {count : Word} {off : Nat} (h : off < bufSize count) :
    ∃ i j, i < count.toNat ∧ j < sectorBytes ∧ off = bufOffset i j :=
  ⟨off / sectorBytes, off % sectorBytes, Nat.div_lt_of_lt_mul (by rwa [Nat.mul_comm]), Nat.mod_lt _ (by decide),
    (Nat.div_add_mod' off sectorBytes).symm⟩

theorem sectorPayload_getElem? (m : Memory) (i : Nat) {j : Nat} (hj : j < sectorBytes) :
    (sectorPayload m i)[j]? = some (m.read (bufOffset i j)) := by
  simp [sectorPayload, hj]

/-! ### The obligations -/

/-- Settles O48: the good sectors leave none, and the loop answers RES_OK. -/
theorem readStoresEverySector : Obligations.ReadStoresEverySector := by
  intro sector count as rest s hready hcount hlen hgood hw h
  obtain ⟨u, hu, hread⟩ := SectorsRead.loop (s := { s with sidx := 0 }) (rest := rest) hgood hw h unitValid sector 0
  rw [Nat.add_zero, hlen, sectorLoop] at hu
  have hend := sectors_ended readSector_counts hcount sector s
  have hkept := readSectors_kept sector count s
  rw [hu] at hend hkept
  obtain ⟨hprog, hstores, hstored⟩ := hread
  have hsidx : u.sidx = count.toNat := by rw [hprog.sidx, hlen]; exact Nat.zero_add _
  refine ⟨_, (exec_hostRead_ready hready hcount).trans (congrArg _ hu), hend.ok hsidx,
    hend.flags_ready (status_of_readKept hkept) hready, rfl, rfl, hend.rested.2, hsidx, hprog.card, hprog.log, ?_, ?_,
    eq_of_readKept hkept⟩
  · intro i a ha j v hj
    simpa using hstored i a ha j v hj
  · intro off hoff
    exact hstores.other off (.inr (by rw [hsidx, bufOffset_zero]; exact hoff))

/-- Settles O49: the good sectors, then the failing one, whose exit stores nothing. -/
theorem readFailsAtSector : Obligations.ReadFailsAtSector := by
  intro sector count as bad last rest s hready hlt hgood hbad hw h
  obtain ⟨m, hm⟩ := Nat.exists_eq_add_of_lt hlt
  have hcount : count ≠ 0 := fun h0 => absurd hlt (by rw [h0]; exact Nat.not_lt_zero _)
  obtain ⟨u, hu, hread⟩ := SectorsRead.loop (s := { s with sidx := 0 }) (rest := bad.bytes ++ last :: rest) hgood hw
    (h.trans (List.append_assoc _ _ _)) unitValid sector (m + 1)
  obtain ⟨hprog, hsame⟩ := hread.fails hbad unitValid m
  rw [← hu, ← Nat.add_assoc, ← hm] at hprog hsame
  simp only [Nat.zero_add] at hprog
  have hsidx := hprog.sidx.trans (Nat.zero_add _)
  have husidx : u.sidx = as.length := hread.progress.sidx.trans (Nat.zero_add _)
  have hend := sectors_ended readSector_counts hcount sector s
  have hkept := readSectors_kept sector count s
  refine ⟨_, exec_hostRead_ready hready hcount, hend.failed (hsidx.trans_lt hlt),
    hend.flags_ready (status_of_readKept hkept) hready, hend.value, hend.rested.1, hend.rested.2, status_of_readKept hkept,
    congrArg (·.speed) hkept, hsidx, hprog.card, ?_, ?_, ?_⟩
  · rw [List.append_assoc]
    exact hprog.log
  · intro i a ha j v hj
    have hat := hread.stored i a ha j v hj
    rw [Nat.zero_add] at hat
    exact (hsame _).trans hat
  · intro off hoff
    exact (hsame off).trans (hread.stores.other off (.inr (by rwa [husidx, bufOffset_zero])))

/-- Settles O51: the good sectors leave none, and the loop answers RES_OK. -/
theorem writeSendsEverySector : Obligations.WriteSendsEverySector := by
  intro sector count as rest s hready hcount hlen hgood h
  obtain ⟨u, hu, hbuf, hprog⟩ := progress_writeSectors (s := { s with sidx := 0 }) (rest := rest) hgood h unitValid sector 0
  rw [Nat.add_zero, hlen, sectorLoop] at hu
  have hend := sectors_ended writeSector_counts hcount sector s
  have hkept := writeSectors_kept sector count s
  rw [hu] at hend hkept
  have hsidx : u.sidx = count.toNat := by rw [hprog.sidx, hlen]; exact Nat.zero_add _
  exact ⟨_, (exec_hostWrite_ready hready hcount).trans (congrArg _ hu), hend.ok hsidx,
    hend.flags_ready (status_of_writeKept hkept) hready, rfl, rfl, hend.rested.2, hsidx, hprog.card, hprog.log,
    fun _ => congrArg (Memory.read · _) hbuf, eq_of_writeKept hkept⟩

/-- Settles O52: the good sectors, then the failing one and its exit. -/
theorem writeFailsAtSector : Obligations.WriteFailsAtSector := by
  intro sector count as bad last rest s hready hlt hgood hbad h
  obtain ⟨m, hm⟩ := Nat.exists_eq_add_of_lt hlt
  have hcount : count ≠ 0 := fun h0 => absurd hlt (by rw [h0]; exact Nat.not_lt_zero _)
  obtain ⟨u, hu, hbuf, hgoods⟩ := progress_writeSectors (s := { s with sidx := 0 }) (rest := bad.bytes ++ last :: rest) hgood
    (h.trans (List.append_assoc _ _ _)) unitValid sector (m + 1)
  have hprog := hgoods.writeSectors_fail hbuf hbad unitValid sector m
  rw [← hu, ← Nat.add_assoc, ← hm] at hprog
  simp only [Nat.zero_add] at hprog
  have hsidx := hprog.sidx.trans (Nat.zero_add _)
  have hend := sectors_ended writeSector_counts hcount sector s
  have hkept := writeSectors_kept sector count s
  refine ⟨_, exec_hostWrite_ready hready hcount, hend.failed (hsidx.trans_lt hlt),
    hend.flags_ready (status_of_writeKept hkept) hready, hend.value, hend.rested.1, hend.rested.2, status_of_writeKept hkept,
    congrArg (·.speed) hkept, hsidx, hprog.card, congrArg (·.buf) hkept, ?_⟩
  rw [List.append_assoc]
  exact hprog.log

/-- Settles O55: WRITE's events hold one block per sector of its buffer, and READ stores the same payloads at the same places. -/
theorem writeThenReadRoundTrips : Obligations.WriteThenReadRoundTrips := by
  intro sector count ws rest evs s t hready hcount hlen hgood h ht hlog
  obtain ⟨t', ht', hcode, -, -, -, -, -, -, hlog', -⟩ := writeSendsEverySector sector count ws rest s hready hcount hlen hgood h
  obtain rfl : t' = t := Host.Outcome.next.inj (ht'.symm.trans ht)
  have hevs : evs = writeTrace s.cfg sector s.buf 0 ws :=
    List.reverse_injective (List.append_cancel_right (hlog.symm.trans hlog'))
  have hkept : writeKept t' = writeKept s := by
    cases (exec_hostWrite_ready hready hcount).symm.trans ht
    exact writeSectors_kept sector count s
  have hcfg : t'.cfg = s.cfg := congrArg (·.cfg) hkept
  have hblocks : blocksSent evs = (List.range count.toNat).map (sectorBlock s.cfg sector s.buf) := by
    rw [hevs, blocksSent_writeTrace hgood, hlen, List.range_eq_range']
  refine ⟨hcode, by rw [hblocks, List.map_map]; rfl, fun m rs rest' hw hrlen hrgood hpayload => ?_⟩
  obtain ⟨u, hu, hucode, -, -, -, -, -, -, hulog, hstored, -⟩ := readStoresEverySector sector count rs rest'
    { t' with buf := m, card := readBytes rs ++ rest' } (by rw [status_of_writeKept hkept]; exact hready) hcount hrlen
    (by rw [hcfg]; exact hrgood) hw rfl
  refine ⟨u, hu, hucode, by rw [hulog, hcfg], fun off hoff => ?_⟩
  obtain ⟨i, j, hi, hj, rfl⟩ := exists_bufOffset hoff
  rw [hblocks, List.map_map] at hpayload
  have hi' : i < rs.length := by rwa [hrlen]
  refine hstored i rs[i] (List.getElem?_eq_getElem hi') j _ ?_
  have hsector : rs[i].payload = sectorPayload s.buf i := by
    have hat := congrArg (·[i]?) hpayload
    simpa [hi, hi', sectorBlock] using hat
  rw [hsector, sectorPayload_getElem? _ _ hj]

/-- Settles O33: `runCmd17_heard`. -/
theorem cmd17ContinuesOnlyOnReady : Obligations.Cmd17ContinuesOnlyOnReady :=
  fun _ _ _ _ hg h => congrArg Host.Outcome.next (runCmd17_heard hg h)

/-- Settles O34: `runCmd24_heard`. -/
theorem cmd24ContinuesOnlyOnReady : Obligations.Cmd24ContinuesOnlyOnReady :=
  fun _ _ _ _ hg h => congrArg Host.Outcome.next (runCmd24_heard hg h)

/-- Settles O50: the end of the sector loop, the registers READ keeps, the bytes it may store. -/
theorem readOutcome : Obligations.ReadOutcome := by
  intro sector count s hready hcount hw
  have hend := sectors_ended readSector_counts hcount sector s
  have hkept := readSectors_kept sector count s
  have hstores := sectorLoop_stores unitValid sector count.toNat { s with sidx := 0 }
  have field {α : Type} (g : State → α) := congrArg g hkept
  refine ⟨_, exec_hostRead_ready hready hcount, hend.rested.1, hend.rested.2,
    hend.flags_ready (status_of_readKept hkept) hready, hend.value, ?_, hend.code, field (·.status), field (·.ctype),
    field (·.ccs), field (·.speed), hstores.wf hw, fun off hoff => ?_⟩
  · exact hend.code.elim (fun hok => hok.2.le) (fun hbad => hbad.2.le)
  · exact hstores.other off (.inr (by rwa [bufOffset_zero]))

/-- Settles O53: the end of the sector loop, and the registers WRITE keeps. -/
theorem writeOutcome : Obligations.WriteOutcome := by
  intro sector count s hready hcount
  have hend := sectors_ended writeSector_counts hcount sector s
  have hkept := writeSectors_kept sector count s
  have field {α : Type} (g : State → α) := congrArg g hkept
  exact ⟨_, exec_hostWrite_ready hready hcount, hend.rested.1, hend.rested.2,
    hend.flags_ready (status_of_writeKept hkept) hready, hend.value, hend.code, field (·.status), field (·.ctype),
    field (·.ccs), field (·.speed), field (·.buf)⟩

/-- Settles O54: COUNT sectors within the bound of one sector each; a rejected request makes no exchange. -/
theorem transferExchangesBounded : Obligations.TransferExchangesBounded := by
  refine fun unit sector count s t => ⟨fun ht => ?_, fun ht => ?_⟩
  · rcases execHostRead_cases ht with ⟨e, rfl⟩ | rfl
    · exact Nat.le_add_right _ _
    · exact sectorLoop_xcount (c := s.cfg) readSector_cfg (fun u hu => hu ▸ readSector_xcount u) unit sector _ rfl
  · rcases execHostWrite_cases ht with ⟨e, rfl⟩ | rfl
    · exact Nat.le_add_right _ _
    · exact sectorLoop_xcount (c := s.cfg) writeSector_cfg (fun u hu => hu ▸ writeSector_xcount u) unit sector _ rfl

/-- Settles O46: the first test that fails, with the response registers it sets. -/
theorem transferPrechecks : Obligations.TransferPrechecks := by
  intro i unit sector count s hi
  refine ⟨fun hunit => ?_, ?_, ?_⟩
  · have hflags : flagsFor unit s = 0x01 := if_neg hunit
    rw [exec_transfer_rejected hi (transferCheck_badUnit hunit count s), raiseError_spec, hflags]; rfl
  · rintro rfl rfl
    exact exec_transfer_rejected hi (transferCheck_noCount s)
  · rintro rfl hcount hn
    rw [exec_transfer_rejected hi (transferCheck_notReady hcount hn), raiseError_spec, flagsFor_notInit hn]; rfl

end Sys2Proof.Machine

/-! PROOFS. STATUS and IOCTL (43_status_ioctl.md): the gate of a query by STATUS, what an IOCTL request decodes to, and the step
that answers it. -/

namespace Sys2Proof.Machine

/-! ### The gate of a query for the valid unit (R231) -/

theorem answerQuery_notReady {s : State} (hn : notInitialized s = true) (answer : Word) :
    answerQuery answer unitValid s = { s with code := 3, flags := 0x01, value := 0, phase := .idle } := by
  rw [answerQuery, if_neg (not_not.mpr rfl), if_pos hn, raiseError_spec, flagsFor_notInit hn]; rfl

theorem answerQuery_ready {s : State} (hn : notInitialized s = false) (answer : Word) :
    answerQuery answer unitValid s = { s with code := 0, flags := 0x00, value := answer, phase := .idle } := by
  rw [answerQuery, if_neg (not_not.mpr rfl), if_neg (by rw [hn]; decide), respond, flagsFor_ready hn]; rfl

/-! ### IOCTL requests (R107, R112, R235) -/

/-- IOCTL selects its operation by QUERY. -/
theorem decodeRequest_ioctl {r : Request} (hop : r.op = opIoctl) :
    decodeRequest r =
      if r.query = queryCtrlSync then .ok (.ioctlCtrlSync r.unit)
      else if r.query = queryGetSectorSize then .ok (.ioctlGetSectorSize r.unit)
      else if r.query = queryGetBlockSize then .ok (.ioctlGetBlockSize r.unit)
      else .error .query := by
  rw [decodeRequest, hop]; rfl

/-- The value of a supported query on a READY device (R232, R233, R234). -/
def queryAnswer (query : Byte) : Word := if query = 0 then 0 else if query = 2 then 512 else 1

section
variable {s : State} {c : HostCall} {rest : List HostCall} (hp : s.phase = .idle) (hh : s.host = c :: rest) (hop : c.req.op = opIoctl)
include hp hh hop

/-- A supported query is answered through the gate. -/
theorem step_of_knownQuery (hquery : c.req.query = 0 ∨ c.req.query = 2 ∨ c.req.query = 3) :
    step s = .next (answerQuery (queryAnswer c.req.query) c.req.unit (sample c rest s)) := by
  have hdecode := decodeRequest_ioctl hop
  rcases hquery with h | h | h <;> rw [h] at hdecode ⊢ <;> exact step_of_request hp hh hdecode

/-- An unsupported query is turned away, whatever the unit. -/
theorem step_of_unknownQuery (hquery : c.req.query ≠ 0 ∧ c.req.query ≠ 2 ∧ c.req.query ≠ 3) :
    step s = .next (raiseError .parameterError c.req.unit (sample c rest s)) := by
  obtain ⟨h0, h2, h3⟩ := hquery
  have hdecode : decodeRequest c.req = .error .query :=
    (decodeRequest_ioctl hop).trans ((if_neg h0).trans ((if_neg h2).trans (if_neg h3)))
  exact step_of_illegal_request hp hh hdecode

/-- An invalid unit is turned away, whatever the query. -/
theorem step_ioctl_badUnit (hunit : c.req.unit ≠ unitValid) :
    step s = .next (raiseError .parameterError c.req.unit (sample c rest s)) := by
  by_cases hquery : c.req.query ≠ 0 ∧ c.req.query ≠ 2 ∧ c.req.query ≠ 3
  · exact step_of_unknownQuery hp hh hop hquery
  · have hknown : c.req.query = 0 ∨ c.req.query = 2 ∨ c.req.query = 3 := by tauto
    rw [step_of_knownQuery hp hh hop hknown, answerQuery, if_pos hunit]

end

/-! ### The obligations -/

/-- Settles O10: R231's tests in their order; a request that passes the first two holds a supported query for the valid unit. -/
theorem ioctlTestsInOrder : Obligations.IoctlTestsInOrder := by
  intro s c rest hp hh hop
  dsimp only
  split
  case isTrue hunit =>
    have hflags : flagsFor c.req.unit (sample c rest s) = 0x01 := if_neg hunit
    rw [step_ioctl_badUnit hp hh hop hunit, raiseError_spec, hflags]; rfl
  case isFalse hunit =>
    have hvalid : c.req.unit = unitValid := not_not.mp hunit
    split
    case isTrue hquery =>
      have hflags : flagsFor unitValid (sample c rest s) = s.status &&& 0x01 := if_pos rfl
      rw [step_of_unknownQuery hp hh hop hquery, hvalid, raiseError_spec, hflags]; rfl
    case isFalse hquery =>
      have hknown : c.req.query = 0 ∨ c.req.query = 2 ∨ c.req.query = 3 := by tauto
      rw [step_of_knownQuery hp hh hop hknown, hvalid]
      split
      case isTrue hn =>
        have hnotReady : notInitialized (sample c rest s) = true := hn
        rw [answerQuery_notReady hnotReady]
      case isFalse hn =>
        have hready : notInitialized (sample c rest s) = false := Bool.eq_false_of_not_eq_true hn
        rw [answerQuery_ready hready, queryAnswer]

/-- Settles O44: STATUS is `respond`, and its FLAGS are those of `flagsFor`, written out. -/
theorem statusAnswersFlag : Obligations.StatusAnswersFlag := fun _ _ => rfl

/-- Settles O45: each query is `answerQuery` with its constant. -/
theorem queriesAnswerByStatus : Obligations.QueriesAnswerByStatus := by
  refine fun s => ⟨fun hn => ?_, fun hn i hi => ?_⟩
  · exact ⟨congrArg Host.Outcome.next (answerQuery_ready hn 0), congrArg Host.Outcome.next (answerQuery_ready hn 512),
      congrArg Host.Outcome.next (answerQuery_ready hn 1)⟩
  · rcases hi with rfl | rfl | rfl
    · exact congrArg Host.Outcome.next (answerQuery_notReady hn 0)
    · exact congrArg Host.Outcome.next (answerQuery_notReady hn 512)
    · exact congrArg Host.Outcome.next (answerQuery_notReady hn 1)

end Sys2Proof.Machine

/-! PROOFS. The mode and the registers of a card session (10_state.md R24, R25, R27; 60_exceptions.md R264): no host request but
INITIALIZE writes one of them. -/

namespace Sys2Proof.Machine

/-! ### What the host requests leave unchanged -/

@[simp] theorem writeKept_answerQuery (answer : Word) (unit : Byte) (s : State) :
    writeKept (answerQuery answer unit s) = writeKept s := by
  rw [answerQuery]; split_ifs <;> rfl

/-- What is written as a request, INITIALIZE aside, changes nothing outside what READ may write. -/
theorem exec_readKept {i : Instr} {r : Request} {s t : State} (hi : i.encoded = .request r) (hinit : ∀ u, i ≠ .hostInitialize u)
    (ht : exec i s = .next t) : readKept t = readKept s := by
  cases i with
  | hostInitialize unit => exact absurd rfl (hinit unit)
  | hostStatus => cases ht; rfl
  | hostRead unit sector count =>
    rcases execHostRead_cases ht with ⟨e, rfl⟩ | rfl
    · rfl
    · exact readKept_sectorLoop unit sector _ { s with sidx := 0 }
  | hostWrite unit sector count =>
    rcases execHostWrite_cases ht with ⟨e, rfl⟩ | rfl
    · rfl
    · exact readKept_of_writeKept (writeKept_sectorLoop unit sector _ { s with sidx := 0 })
  | ioctlCtrlSync | ioctlGetSectorSize | ioctlGetBlockSize => cases ht; exact readKept_of_writeKept (writeKept_answerQuery _ _ s)
  | cmd0 | cmd8 | cmd55 | acmd41 | cmd1 | cmd58 | cmd17 | cmd24 => cases hi

/-! ### The obligations -/

/-- Settles O56: a wire command keeps its row of `wireKept`, a host request what READ keeps; each register is a field of these. -/
theorem onlyInitializeChangesMode : Obligations.OnlyInitializeChangesMode := by
  intro i s t hinit ht
  cases hi : i.encoded with
  | frame f =>
    have field {α : Type} (g : State → α) : g (wireKept i t) = g (wireKept i s) := congrArg g (exec_wireKept hi ht)
    refine ⟨field (·.status), field (·.speed), fun h8 => ?_, fun h58 => ?_⟩
    · simpa [wireKept, h8] using field (·.ctype)
    · simpa [wireKept, h58] using field (·.ccs)
  | request r =>
    have field {α : Type} (g : State → α) : g (readKept t) = g (readKept s) := congrArg g (exec_readKept hi hinit ht)
    exact ⟨field (·.status), field (·.speed), fun _ => field (·.ctype), fun _ => field (·.ccs)⟩

end Sys2Proof.Machine

/-! PROOFS. The bus discipline (70_reset_and_hazards.md R303 (b), (c); 90_conflicts.md C1): what the event log says of the line after
each procedure and loop, whatever the card answers. -/

namespace Sys2Proof.Machine

/-! ### What the log says of the line -/

/-- The discipline was kept, and the line is high, from reset or with idle bytes since it was driven high. -/
def LineRested (s : State) : Prop := ∃ n, lineState s.log = some (.rested n)

/-- The discipline was kept, and the line is low after a whole frame. -/
def LineTalking (s : State) : Prop := lineState s.log = some .talking

/-- Between commands: the line is high, or the card of the last command is still selected. -/
def LineSettled (s : State) : Prop := LineRested s ∨ LineTalking s

theorem lineState_cons (e : Event) (log : List Event) : lineState (e :: log) = (lineState log).bind (lineNext e) := rfl

theorem LineRested.settled {s : State} (h : LineRested s) : LineSettled s := .inl h

theorem LineTalking.settled {s : State} (h : LineTalking s) : LineSettled s := .inr h

/-- A selected card may be sent any byte once its frame is complete. -/
theorem LineTalking.xchg {s : State} (h : LineTalking s) (o : Byte) : LineTalking (xchg o s) := by
  rw [LineTalking, xchg_log, lineState_cons, h]; rfl

/-- While the line is high only idle bytes go out. -/
theorem LineRested.xchg {s : State} (h : LineRested s) : LineRested (xchg idleByte s) := by
  obtain ⟨n, hn⟩ := h
  exact ⟨n + 1, by rw [xchg_log, lineState_cons, hn]; rfl⟩

theorem LineSettled.xchg {s : State} (h : LineSettled s) : LineSettled (xchg idleByte s) :=
  h.imp LineRested.xchg fun hs => hs.xchg idleByte

/-- A buffer access says nothing of the line. -/
theorem lineState_memWrite (off : Nat) (v : Byte) (s : State) : lineState (memWrite off v s).log = lineState s.log := by
  rw [memWrite_log, lineState_cons]; cases lineState s.log <;> rfl

theorem LineSettled.memWrite {s : State} (h : LineSettled s) (off : Nat) (v : Byte) : LineSettled (memWrite off v s) := by
  simpa only [LineSettled, LineRested, LineTalking, lineState_memWrite] using h

theorem LineTalking.noteMemRead {s : State} (h : LineTalking s) (off : Nat) : LineTalking (noteMemRead off s) := by
  rw [LineTalking, noteMemRead_log, lineState_cons, h]; rfl

/-- The speed may change while the line is high (R303 (c)). -/
theorem LineRested.setSpeed {s : State} (h : LineRested s) (hz : Nat) : LineRested (setSpeed hz s) := by
  obtain ⟨n, hn⟩ := h
  exact ⟨n, by rw [setSpeed_log, lineState_cons, hn]; rfl⟩

/-- Between commands the line may be driven high. -/
theorem lineState_select_false {s : State} (h : LineSettled s) : lineState (select false s).log = some .fresh := by
  rw [select_log, lineState_cons]
  rcases h with ⟨n, h⟩ | h <;> rw [h] <;> rfl

/-- An idle byte after the line was driven high (R141). -/
theorem lineState_xchg_of_fresh {s : State} (h : lineState s.log = some .fresh) :
    lineState (xchg idleByte s).log = some (.rested 1) := by
  rw [xchg_log, lineState_cons, h]; rfl

/-- `Deselect()` leaves the line high with exactly one idle byte (R141). -/
theorem lineState_deselect {s : State} (h : LineSettled s) : lineState (deselect s).log = some (.rested 1) :=
  lineState_xchg_of_fresh (lineState_select_false h)

theorem LineSettled.deselect {s : State} (h : LineSettled s) : LineRested (deselect s) := ⟨1, lineState_deselect h⟩

/-! ### SendCommand and ReadTrail (R143, R150) -/

/-- The frames of the eight commands begin with the bytes of R110. -/
theorem commandByte_mem_commandBytes {index : BitVec 6} (h : commandIndices.contains index = true) :
    commandByte index ∈ commandBytes := by
  revert index; decide

/-- The six bytes of a command's frame, after the line was driven low. -/
theorem sendFrame_talking {s : State} (hi : commandIndices.contains s.idx = true)
    (h : lineState s.log = some (.sending 0)) : LineTalking (sendFrame s) := by
  have hfirst := commandByte_mem_commandBytes hi
  simp [LineTalking, sendFrame, lineState_cons, h, lineNext, hfirst]

/-- Polling ends with the card still selected exactly when it gave a response (R147), provided RESP holds a filler before. -/
theorem pollResponse_discipline (n : Nat) {s : State} (h : LineTalking s) (hr : isFiller s.resp = true) :
    if isFiller (pollResponse n s).resp then LineRested (pollResponse n s) else LineTalking (pollResponse n s) := by
  induction n generalizing s with
  | zero => rw [pollResponse, deselect_spec, if_pos hr]; exact h.settled.deselect
  | succ n ih =>
    have hpoll : LineTalking (pollOnce s) := h.xchg idleByte
    rw [pollResponse]
    split
    case isTrue hf => exact ih hpoll hf
    case isFalse => exact hpoll

section command
variable {index : BitVec 6} (hi : commandIndices.contains index = true) (arg : Word) {s : State} (h : LineSettled s)
include hi h

/-- A command keeps the discipline, and leaves the card selected exactly when it gave a response (R147). -/
theorem command_discipline :
    if isFiller (command index arg s).resp then LineRested (command index arg s) else LineTalking (command index arg s) := by
  have hlow : lineState (select true (deselect (loadDescriptor index arg s))).log = some (.sending 0) := by
    rw [select_log, lineState_cons, lineState_deselect (s := loadDescriptor index arg s) h]; rfl
  exact pollResponse_discipline _ (sendFrame_talking hi hlow) (by rw [sendFrame_spec]; exact isFiller_ff)

theorem command_settled : LineSettled (command index arg s) := by
  have hline := command_discipline hi arg h
  split at hline
  · exact hline.settled
  · exact hline.settled

theorem command_talking (hr : isFiller (command index arg s).resp = false) : LineTalking (command index arg s) := by
  have hline := command_discipline hi arg h
  rwa [hr, if_neg Bool.false_ne_true] at hline

end command

/-- The trailing bytes are heard by sending idle bytes (R150). -/
theorem readTrail_settled {s : State} (h : LineSettled s) : LineSettled (readTrail s) := by
  have h0 : LineSettled (readTrail0 s) := h.xchg
  have h1 : LineSettled (readTrail1 (readTrail0 s)) := h0.xchg
  have h2 : LineSettled (readTrail2 (readTrail1 (readTrail0 s))) := h1.xchg
  exact h2.xchg

/-! ### INITIALIZE (R173 to R183) -/

section card
variable {s : State}

theorem powerUp_rested (n : Nat) (h : LineRested s) : LineRested (powerUp n s) := by
  induction n generalizing s with
  | zero => exact h
  | succ n ih => exact ih (s := waitOnce s) h.xchg

/-- The bus reset sends the idle bytes that end the drive-high, for R7 asks for more than none (R173). -/
theorem busReset_rested (hcfg : s.cfg.valid = true) (h : LineRested s) : LineRested (busReset s) := by
  obtain ⟨n, hn⟩ : ∃ n, s.cfg.nPwrup = n + 1 := by
    simp only [Config.valid, Bool.and_eq_true, decide_eq_true_eq] at hcfg
    exact ⟨s.cfg.nPwrup - 1, by omega⟩
  have hhigh := lineState_select_false (h.setSpeed s.cfg.fSlow).settled
  rw [busReset, hn]
  exact powerUp_rested n (s := waitOnce _) ⟨1, lineState_xchg_of_fresh hhigh⟩

theorem errorExit_lineRested (h : LineSettled s) (e : ErrorKind) (unit : Byte) : LineRested (errorExit e unit s) :=
  h.deselect

/-- `SetSpeed(F_FAST)` comes after the idle byte of `Deselect()` (R181). -/
theorem initDone_lineRested (h : LineSettled s) : LineRested (initDone s) := h.deselect.setSpeed s.cfg.fFast

theorem runCmd0_settled (h : LineSettled s) : LineSettled (runCmd0 s) := command_settled rfl 0 h

theorem runCmd8_settled (h : LineSettled s) : LineSettled (runCmd8 s) := by
  have hcmd : LineSettled (command idxIfCond argIfCond s) := command_settled rfl argIfCond h
  by_cases hr : (command idxIfCond argIfCond s).resp = respIdle
  · rw [runCmd8_of_idle hr, afterR7_spec]
    exact readTrail_settled (s := goto .iR7 { command idxIfCond argIfCond s with ctype := .v1Mmc }) hcmd
  · rw [runCmd8_of_other hr]; exact hcmd

theorem runCmd55_settled (h : LineSettled s) : LineSettled (runCmd55 s) := command_settled rfl 0 h

theorem runAcmd41_settled (hcs : Bool) (h : LineSettled s) : LineSettled (runAcmd41 hcs s) := by
  rw [runAcmd41, afterAcmd41_spec]
  exact command_settled (index := idxSdOpCond) rfl (acmd41Arg hcs) h

theorem runRound_settled (h : LineSettled s) : LineSettled (runRound s) := runAcmd41_settled _ (runCmd55_settled h)

theorem runCmd1_settled (h : LineSettled s) : LineSettled (runCmd1 s) := command_settled rfl 0 h

theorem runCmd58_settled (h : LineSettled s) : LineSettled (runCmd58 s) := by
  have hcmd : LineSettled (command idxReadOcr 0 s) := command_settled rfl 0 h
  by_cases hr : (command idxReadOcr 0 s).resp = respReady
  · rw [runCmd58_of_ready hr]
    exact readTrail_settled (s := goto .iOcr (command idxReadOcr 0 s)) hcmd
  · rw [runCmd58_of_other hr]; exact hcmd

theorem legacyFallback_lineRested (h : LineSettled s) : LineRested (legacyFallback s) := by
  rw [legacyFallback]
  split
  · exact initDone_lineRested (runCmd1_settled h)
  · exact errorExit_lineRested (runCmd1_settled h) _ _

theorem afterLoop_lineRested (h : LineSettled s) : LineRested (afterLoop s) := by
  rw [afterLoop]
  split
  · exact initDone_lineRested (runCmd58_settled h)
  · exact initDone_lineRested h

/-- Step 4 is entered between commands, each iteration ends there, and every way out deselects. -/
theorem acmdLoop_lineRested (n : Nat) (h : LineSettled s) : LineRested (acmdLoop n s) := by
  induction n generalizing s with
  | zero => exact errorExit_lineRested h _ _
  | succ n ih =>
    rw [acmdLoop_succ]
    split_ifs
    · exact legacyFallback_lineRested (runCmd55_settled h)
    · exact afterLoop_lineRested (runRound_settled h)
    · exact ih (runRound_settled h)

theorem initializeCard_lineRested (hcfg : s.cfg.valid = true) (h : LineRested s) : LineRested (initializeCard s) := by
  have hgo := runCmd0_settled (busReset_rested (s := initStart s) hcfg h).settled
  rw [initializeCard]
  split
  · exact acmdLoop_lineRested _ (runCmd8_settled hgo)
  · exact errorExit_lineRested hgo _ _

end card

/-! ### READ (R202 to R206) -/

section read
variable {s : State}

theorem runCmd17_settled (arg : Word) (h : LineSettled s) : LineSettled (runCmd17 arg s) := by
  rw [runCmd17, afterCmd17]
  split <;> exact command_settled (index := idxReadBlock) rfl arg h

theorem tokenWait_settled (n : Nat) (h : LineSettled s) : LineSettled (tokenWait n s) := by
  induction n generalizing s with
  | zero => exact h
  | succ n ih =>
    have hwait : LineSettled (waitOnce s) := h.xchg
    rw [tokenWait]
    split_ifs
    · exact hwait
    · exact ih hwait
    · exact hwait

theorem readPayload_settled (n : Nat) (h : LineSettled s) : LineSettled (readPayload n s) := by
  induction n generalizing s with
  | zero => exact h
  | succ n ih => exact ih (s := readByte s) (h.xchg.memWrite _ _)

theorem closeRead_lineRested (h : LineSettled s) : LineRested (closeRead s) := h.xchg.xchg.deselect

theorem storeSector_lineRested (h : LineSettled s) : LineRested (storeSector s) :=
  closeRead_lineRested (readPayload_settled sectorBytes h)

/-- A sector that fails is left to the error exit; one that was read ends with `Deselect()` (R205, R206). -/
theorem readSector_discipline (h : LineSettled s) :
    if (readSector s).phase = .xFail then LineSettled (readSector s) else LineRested (readSector s) := by
  have hcmd := runCmd17_settled (blockArg s.cfg.addrMode s.sect) h
  have htoken := tokenWait_settled (runCmd17 (blockArg s.cfg.addrMode s.sect) s).cfg.nToken hcmd
  rcases readSector_cases s with ⟨hp, hs⟩ | ⟨-, hp, hs⟩ | ⟨-, -, -, hs⟩ <;> rw [hs]
  · rw [if_pos hp]; exact hcmd
  · rw [if_pos hp]; exact htoken
  · rw [if_neg (by rw [storeSector_phase]; decide)]; exact storeSector_lineRested htoken

end read

/-! ### WRITE (R208 to R214) -/

section write
variable {s : State}

theorem runCmd24_settled (arg : Word) (h : LineSettled s) : LineSettled (runCmd24 arg s) :=
  command_settled (index := idxWriteBlock) rfl arg h

/-- CMD24 goes on to the data only with the card selected: its answer `0x00` is no filler (R147, R208). -/
theorem runCmd24_talking {arg : Word} (h : LineSettled s) (hp : (runCmd24 arg s).phase = .wrToken) :
    LineTalking (runCmd24 arg s) := by
  have hresp : (command idxWriteBlock arg s).resp = respReady := by
    rw [runCmd24_phase] at hp
    split at hp
    case isTrue hready => exact hready
    case isFalse => cases hp
  exact command_talking (index := idxWriteBlock) rfl arg h (by rw [hresp]; decide)

theorem writePayload_talking (n : Nat) (h : LineTalking s) : LineTalking (writePayload n s) := by
  induction n generalizing s with
  | zero => exact h
  | succ n ih => exact ih (s := writeByte s) ((h.noteMemRead _).xchg _)

theorem sendBlock_talking (h : LineTalking s) : LineTalking (sendBlock s) := by
  have hpayload := writePayload_talking sectorBytes (s := { xchg tokenStart s with bcnt := 0 }) (h.xchg tokenStart)
  exact (hpayload.xchg crcDataDummy).xchg crcDataDummy

theorem afterDataResponse_talking (d : Byte) (h : LineTalking s) : LineTalking (afterDataResponse d s) := by
  rw [afterDataResponse]
  split <;> exact h

theorem answerBlock_talking (h : LineTalking s) : LineTalking (answerBlock s) :=
  afterDataResponse_talking _ ((sendBlock_talking h).xchg idleByte)

theorem busyWait_talking (n : Nat) (h : LineTalking s) : LineTalking (busyWait n s) := by
  induction n generalizing s with
  | zero => exact h
  | succ n ih =>
    have hwait : LineTalking (waitOnce s) := h.xchg idleByte
    rw [busyWait]
    split
    · exact hwait
    · exact ih hwait

theorem closeWrite_lineRested (h : LineTalking s) : LineRested (closeWrite s) := (h.xchg idleByte).settled.deselect

/-- A sector that fails is left to the error exit; one that was written ends with `Deselect()` (R213, R214). -/
theorem writeSector_discipline (h : LineSettled s) :
    if (writeSector s).phase = .xFail then LineSettled (writeSector s) else LineRested (writeSector s) := by
  have hcmd := runCmd24_settled (blockArg s.cfg.addrMode s.sect) h
  have hanswer (hp) := answerBlock_talking (runCmd24_talking (arg := blockArg s.cfg.addrMode s.sect) h hp)
  have hstored (hp) : LineTalking (awaitStored _) := busyWait_talking _ (hanswer hp)
  rcases writeSector_cases s with ⟨hp, hs⟩ | ⟨hready, hp, hs⟩ | ⟨hready, -, ⟨hp, hs⟩ | ⟨hp, hs⟩⟩ <;> rw [hs]
  · rw [if_pos hp]; exact hcmd
  · rw [if_pos hp]; exact (hanswer hready).settled
  · rw [if_pos hp]; exact (hstored hready).settled
  · rw [if_neg (by rw [closeWrite_phase]; decide)]; exact closeWrite_lineRested (hstored hready)

end write

/-! ### Operations -/

/-- The sector loop begins and ends each turn with the line high; a failed sector is deselected by the error exit. -/
theorem sectorLoop_lineRested {run : State → State}
    (hrun : ∀ s, LineSettled s → if (run s).phase = .xFail then LineSettled (run s) else LineRested (run s)) (unit : Byte)
    (sector : Word) (n : Nat) {s : State} (h : LineRested s) : LineRested (sectorLoop run unit sector n s) := by
  induction n generalizing s with
  | zero => exact h
  | succ n ih =>
    have hsector := hrun (atSector sector s) (LineRested.settled h)
    by_cases hp : (run (atSector sector s)).phase = .xFail
    · rw [if_pos hp] at hsector
      rw [sectorLoop_failed hp]; exact errorExit_lineRested hsector _ _
    · rw [if_neg hp] at hsector
      rw [sectorLoop_done hp]; exact ih hsector

theorem answerQuery_lineRested {s : State} (h : LineRested s) (answer : Word) (unit : Byte) :
    LineRested (answerQuery answer unit s) := by
  rw [answerQuery]
  split_ifs <;> exact h

/-- Whatever a request decodes to keeps the discipline and ends with the line high. -/
theorem exec_request_lineRested {r : Request} {i : Instr} {s t : State} (hcfg : s.cfg.valid = true) (h : LineRested s)
    (hd : decodeRequest r = .ok i) (ht : exec i s = .next t) : LineRested t := by
  rcases decodeRequest_cases hd with ⟨-, rfl⟩ | ⟨-, rfl⟩ | rfl | rfl | rfl | rfl | rfl
  · cases ht
    split
    · exact initializeCard_lineRested hcfg h
    · exact h
  · cases ht; exact h
  · rcases execHostRead_cases ht with ⟨e, rfl⟩ | rfl
    · exact h
    · exact sectorLoop_lineRested (fun _ => readSector_discipline) _ _ _ (s := { s with sidx := 0 }) h
  · rcases execHostWrite_cases ht with ⟨e, rfl⟩ | rfl
    · exact h
    · exact sectorLoop_lineRested (fun _ => writeSector_discipline) _ _ _ (s := { s with sidx := 0 }) h
  all_goals cases ht; exact answerQuery_lineRested h _ _

/-- Settles O15: a request that decodes keeps the discipline by `exec_request_lineRested`; any other makes no event. -/
theorem operationsKeepBusDiscipline : Obligations.OperationsKeepBusDiscipline := by
  intro s c rest t n hcfg hp hh hline ht
  have hsample : LineRested (sample c rest s) := ⟨n, hline⟩
  cases hd : decodeRequest c.req with
  | ok i => exact exec_request_lineRested (s := sample c rest s) hcfg hsample hd ((step_of_request hp hh hd).symm.trans ht)
  | error e => cases (step_of_illegal_request hp hh hd).symm.trans ht; exact hsample

end Sys2Proof.Machine

/-! PROOFS. Requests are accepted only in IDLE (70_reset_and_hazards.md R300): neither a call of the sequencer at another label nor a
wire command takes one from the host or writes a request register. -/

namespace Sys2Proof.Machine

/-! ### The requests of the host (R32) -/

/-- The requests the host will place, and the one the request registers hold. -/
def hostRequests (s : State) : List HostCall × Request := (s.host, request s)

theorem hostRequests_sectorHead (p : Phase) (s : State) : hostRequests (sectorHead p s) = hostRequests s := by
  rw [sectorHead]; split <;> rfl

theorem hostRequests_returnDeselect (d : DeselCaller) (s : State) : hostRequests (returnDeselect d s) = hostRequests s := by
  cases d with
  | rdDesel | wrDesel => exact hostRequests_sectorHead _ { s with sidx := s.sidx + 1 }
  | initDone | initFail | xFail => rfl

/-- The handling of a response writes no request register. -/
theorem hostRequests_returnCommand {s t : State} (ht : returnCommand s = .next t) : hostRequests t = hostRequests s := by
  unfold returnCommand at ht
  split_ifs at ht <;> cases ht
  · rfl
  · rw [afterCmd8_spec]; rfl
  · rfl
  · rw [afterAcmd41_spec]; rfl
  · rfl
  · rfl
  · rw [afterCmd17]; split <;> rfl
  · rfl

theorem hostRequests_returnTrail {s t : State} (ht : returnTrail s = .next t) : hostRequests t = hostRequests s := by
  unfold returnTrail at ht
  split_ifs at ht <;> cases ht
  · rw [afterR7_spec]; rfl
  · rfl

/-! ### Steps outside IDLE -/

/-- No label of the sequencer but IDLE takes a request. -/
theorem hostRequests_tick {s t : State} (hp : s.phase ≠ .idle) (ht : tick s = .next t) : hostRequests t = hostRequests s := by
  cases hlabel : s.phase <;> simp only [tick, hlabel] at ht
  case idle => exact absurd hlabel hp
  case cPoll =>
    split at ht
    · cases ht; rfl
    · exact hostRequests_returnCommand (s := pollOnce s) ht
  case cToIdle => exact hostRequests_returnCommand (s := xchg idleByte s) ht
  case t3 => exact hostRequests_returnTrail (s := readTrail3 s) ht
  case dIdle => cases ht; exact hostRequests_returnDeselect _ (xchg idleByte s)
  case rdToken =>
    split at ht
    · cases ht; rfl
    · split at ht <;> cases ht <;> rfl
  case rdData | wrData => rw [inBuffer_next ht]; rfl
  case wrResp => cases ht; rw [afterDataResponse]; split <;> rfl
  case wrBusy => split at ht <;> cases ht <;> rfl
  all_goals cases ht; rfl

/-- A wire command writes the registers of its row of `wireKept`, and no request register is among them. -/
theorem hostRequests_exec_frame {i : Instr} {f : Frame} {s t : State} (hi : i.encoded = .frame f) (ht : exec i s = .next t) :
    hostRequests t = hostRequests s :=
  show hostRequests (wireKept i t) = hostRequests (wireKept i s) from congrArg hostRequests (exec_wireKept hi ht)

theorem hostRequests_step {s t : State} (hp : s.phase ≠ .idle) (ht : step s = .next t) : hostRequests t = hostRequests s := by
  by_cases hdesel : s.phase = .cDesel
  · cases hd : decodeFrame (descriptor s) with
    | ok i => exact hostRequests_exec_frame (decodeFrame_eq_ok_iff.mp hd) ((step_of_frame hdesel hd).symm.trans ht)
    | error e => exact hostRequests_tick hp (by simpa only [step, hdesel, hd] using ht)
  · exact hostRequests_tick hp ((step_eq_tick hp hdesel).symm.trans ht)

/-- Settles O6: a step outside IDLE is a wire command or a call of the sequencer, `hostRequests_step`. -/
theorem requestsAcceptedOnlyInIdle : Obligations.RequestsAcceptedOnlyInIdle := by
  intro s t hp ht
  obtain ⟨hhost, hrequest⟩ := Prod.ext_iff.mp (hostRequests_step hp ht)
  obtain ⟨hop, hunit, hquery, hsector, hcount⟩ := Request.mk.inj hrequest
  exact ⟨hhost, hop, hunit, hquery, hsector, hcount⟩

end Sys2Proof.Machine
